-- ==== Sys2Proof/Word.lean ====
section
/-! DEFINITION. The unit of data of the block: the byte (R6, R33). Every datum is a byte or smaller,
all of them unsigned; the only arithmetic on bytes is exclusive-or (R63), `^^^` of `BitVec`. -/

namespace Sys2Proof

/-- A byte: an unsigned 8-bit value, bit 0 the least significant (R6). -/
abbrev Byte := BitVec 8

end Sys2Proof
end

