-- ==== Sys2Proof/Config.lean ====
section
/-! DEFINITION. The block's constants (R5), each under its own name so that no literal is scattered
through the model (D22). The six code points are the source's and unaudited: log entry 8. No value of
this block is left open after an operation, so there is no free value here. -/

namespace Sys2Proof.Config

/-- `FRAME_LEN`: bytes in a frame (R5). -/
abbrev frameLen : Nat := 20

/-- `PAYLOAD_MAX`: payload bytes in a frame, and the largest legal payload length (R5). -/
abbrev payloadMax : Nat := 17

/-- `CSUM_SPAN`: how many bytes the checksum covers, frame bytes 0 to 18 (R5, C3). -/
abbrev csumSpan : Nat := 19

/-- `PLEN_W`: width in bits of the payload-length operand (R5, D4; log entry 9). -/
abbrev plenW : Nat := 8

/-- `HEAD_COMMAND`: head byte of a COMMAND frame (R5, R41). -/
def headCommand : Byte := 0x33

/-- `HEAD_REQUEST`: head byte of a REQUEST frame (R5, R41). -/
def headRequest : Byte := 0xAA

/-- `CMD_POWER` (R5, R42). -/
def cmdPower : Byte := 0x01

/-- `CMD_BRIGHTNESS` (R5, R42). -/
def cmdBrightness : Byte := 0x04

/-- `CMD_COLOR` (R5, R42). -/
def cmdColor : Byte := 0x05

/-- `CMD_SEGMENT` (R5, R42). -/
def cmdSegment : Byte := 0xA5

/-- `PAD`: the padding byte (R5, R43). -/
def pad : Byte := 0x00

/-- `CSUM_SEED`: start value of the XOR fold (R5, R60, D19). -/
def csumSeed : Byte := 0x00

end Sys2Proof.Config
end

