-- ==== Sys2Proof/Syntax.lean ====
section
/-! DEFINITION. The operations of the block (R45) and its frame types (R51), one constructor of `Instr`
per row of spec/opcode_table.json, and the raw form in which the host presents a request at a port
(R26). Operands keep the widths R26 gives them. -/

namespace Sys2Proof

/-- A frame: twenty bytes, index 0 first (R30, R40). -/
abbrev Frame := Vector Byte Config.frameLen

/-- The payload field of a frame, or the `pdata` operand lines: seventeen bytes (R26, R43). -/
abbrev Payload := Vector Byte Config.payloadMax

/-- The payload-length operand `plen` (R26). -/
abbrev PayloadLen := BitVec Config.plenW

/-- A packet's `head` on the encoder side: a closed enumeration (R9, R26, C2). -/
inductive Head where
  | command
  | request
  deriving DecidableEq, Repr

/-- A packet's `command` on the encoder side: a closed enumeration (R9, R26, C2). -/
inductive Cmd where
  | power
  | brightness
  | color
  | segment
  deriving DecidableEq, Repr

/-- The `field` operand of READ_RXP, with the index that only `DATA` takes (R93). -/
inductive RxField where
  | head
  | headClass
  | cmd
  | cmdClass
  | data (i : Nat)
  deriving DecidableEq, Repr

/-- The operations of R45, and the eight frame types of R51 (a frame of that type presented to DECODE,
log entry 6). One constructor per row of spec/opcode_table.json. -/
inductive Instr where
  /-- `ENCODE head_sel, cmd_sel, plen, pdata[0..16]` (R70, R71). -/
  | encode (head : Head) (cmd : Cmd) (plen : PayloadLen) (pdata : Payload)
  /-- `DECODE fbytes` (R80, R81); a sequence that is not twenty bytes is not well formed (R88). -/
  | decode (fbytes : List Byte)
  /-- `READ_ENC_STATUS` (R90). -/
  | readEncStatus
  /-- `READ_TXF i` (R91); `i` from 20 up is not well formed. -/
  | readTxf (i : Nat)
  /-- `READ_DEC_STATUS` (R92). -/
  | readDecStatus
  /-- `READ_RXP field [i]` (R93); a `DATA` index from 17 up is not well formed. -/
  | readRxp (field : RxField)
  /-- `RESET` (R120). -/
  | reset
  /-- A received frame `33 01 payload checksum` (R51). -/
  | commandPower (payload : Payload) (checksum : Byte)
  /-- A received frame `33 04 payload checksum` (R51). -/
  | commandBrightness (payload : Payload) (checksum : Byte)
  /-- A received frame `33 05 payload checksum` (R51). -/
  | commandColor (payload : Payload) (checksum : Byte)
  /-- A received frame `33 A5 payload checksum` (R51). -/
  | commandSegment (payload : Payload) (checksum : Byte)
  /-- A received frame `AA 01 payload checksum` (R51). -/
  | requestPower (payload : Payload) (checksum : Byte)
  /-- A received frame `AA 04 payload checksum` (R51). -/
  | requestBrightness (payload : Payload) (checksum : Byte)
  /-- A received frame `AA 05 payload checksum` (R51). -/
  | requestColor (payload : Payload) (checksum : Byte)
  /-- A received frame `AA A5 payload checksum` (R51). -/
  | requestSegment (payload : Payload) (checksum : Byte)
  deriving DecidableEq, Repr

/-- What the host presents to the block, raw: the request port it arrives on (there are no operation-code
bits, R45) with that port's operand lines at the widths of R26. The decoder of Sys2Proof/Decode.lean
turns it into an `Instr` or rejects it. -/
inductive Request where
  /-- The encoder request port `ENC_REQ` (R26). -/
  | encReq (headSel : BitVec 1) (cmdSel : BitVec 2) (plen : PayloadLen) (pdata : Payload)
  /-- The decoder request port `DEC_REQ` (R26), with the bytes the host tries to present; R88 rules
  out every length but twenty. -/
  | decReq (fbytes : List Byte)
  /-- The request for `ENC_STATUS` (R90). -/
  | encStatusReq
  /-- The request for one byte of `TXF` (R91), with any index the host may ask for. -/
  | txfReq (i : Nat)
  /-- The request for `DEC_STATUS` (R92). -/
  | decStatusReq
  /-- The request for one `RX_*` latch (R93), with any index the host may ask for. -/
  | rxpReq (field : RxField)
  /-- The reset request (R120). -/
  | resetReq
  /-- Anything R45 does not list, an attempt to write a latch directly among it (R126 item 6). -/
  | unlisted
  deriving DecidableEq, Repr

/-- Which unit an operation belongs to: the table's "unit" column (R10, R45). -/
inductive UnitName where
  | encoder
  | decoder
  | both
  deriving DecidableEq, Repr

/-- The unit that executes an operation (R10, R45). -/
def Instr.unit : Instr → UnitName
  | .encode _ _ _ _ => .encoder
  | .decode _ => .decoder
  | .readEncStatus => .encoder
  | .readTxf _ => .encoder
  | .readDecStatus => .decoder
  | .readRxp _ => .decoder
  | .reset => .both
  | .commandPower _ _ => .decoder
  | .commandBrightness _ _ => .decoder
  | .commandColor _ _ => .decoder
  | .commandSegment _ _ => .decoder
  | .requestPower _ _ => .decoder
  | .requestBrightness _ _ => .decoder
  | .requestColor _ _ => .decoder
  | .requestSegment _ _ => .decoder

/-- The unit a raw request is addressed to; none for what R45 does not list. -/
def Request.unit : Request → Option UnitName
  | .encReq _ _ _ _ => some .encoder
  | .decReq _ => some .decoder
  | .encStatusReq => some .encoder
  | .txfReq _ => some .encoder
  | .decStatusReq => some .decoder
  | .rxpReq _ => some .decoder
  | .resetReq => some .both
  | .unlisted => none

end Sys2Proof
end

