-- ==== Sys2Proof/WellFormed.lean ====
section
/-! DEFINITION. Which terms of `Instr` are operations the block has: the operand ranges of R88, R91 and
R93. Every other operand has exactly the values R26 gives it, by its type. -/

namespace Sys2Proof

/-- The field operand of READ_RXP is in range: a `DATA` index is 0 to 16 (R93). -/
def RxField.wf : RxField → Bool
  | .head => true
  | .headClass => true
  | .cmd => true
  | .cmdClass => true
  | .data i => decide (i < Config.payloadMax)

/-- The operand ranges of the operations: exactly twenty bytes to DECODE (R88), a `TXF` index 0 to 19
(R91), an `RX_DATA` index 0 to 16 (R93). Every `plen` is admitted (R126, last paragraph). -/
def Instr.wf : Instr → Bool
  | .encode _ _ _ _ => true
  | .decode fbytes => decide (fbytes.length = Config.frameLen)
  | .readEncStatus => true
  | .readTxf i => decide (i < Config.frameLen)
  | .readDecStatus => true
  | .readRxp field => field.wf
  | .reset => true
  | .commandPower _ _ => true
  | .commandBrightness _ _ => true
  | .commandColor _ _ => true
  | .commandSegment _ _ => true
  | .requestPower _ _ => true
  | .requestBrightness _ _ => true
  | .requestColor _ _ => true
  | .requestSegment _ _ => true

end Sys2Proof
end

