-- ==== Sys2Proof/Decode.lean ====
section
/-! DEFINITION. The decoder: from what the host presents at a port (R26, R45) to an operation, total,
rejecting by name what R126 says the block does not admit; then the encoder, written from the same
tables. Also the packing of a frame into one 160-bit value (R32), the frame-type table (R51) and the
words of spec/opcode_table.json. -/

namespace Sys2Proof

/-- Why a presented request is not an operation of the block (R126). -/
inductive DecodeError where
  /-- A sequence that is not twenty bytes was presented to DECODE (R88, R126 item 3). -/
  | frameLength
  /-- A `TXF` index outside 0 to 19 (R91, R126 item 1). -/
  | txfIndex
  /-- An `RX_DATA` index outside 0 to 16 (R93, R126 item 2). -/
  | rxDataIndex
  /-- An operation R45 does not list (R126 item 6). -/
  | unlistedOperation
  deriving DecidableEq, Repr

/-! ### The selectors of the encoder port (R26, R49) -/

/-- `head_sel` as the packet's head: 0 COMMAND, 1 REQUEST (R26). -/
def Head.ofSel (sel : BitVec 1) : Head :=
  if sel = 0 then .command else .request

/-- The packet's head as `head_sel` (R26). -/
def Head.sel : Head → BitVec 1
  | .command => 0
  | .request => 1

/-- `cmd_sel` as the packet's command: 0 POWER, 1 BRIGHTNESS, 2 COLOR, 3 SEGMENT (R26). -/
def Cmd.ofSel (sel : BitVec 2) : Cmd :=
  if sel = 0 then .power
  else if sel = 1 then .brightness
  else if sel = 2 then .color
  else .segment

/-- The packet's command as `cmd_sel` (R26). -/
def Cmd.sel : Cmd → BitVec 2
  | .power => 0
  | .brightness => 1
  | .color => 2
  | .segment => 3

/-! ### Frames as byte lists, fields and one 160-bit value -/

/-- The frame in a byte sequence, if the sequence has exactly twenty bytes (R50, R88). -/
def frameOfBytes? (bytes : List Byte) : Option Frame :=
  if h : bytes.length = Config.frameLen then some ⟨bytes.toArray, by simpa using h⟩ else none

/-- The seventeen payload bytes of a frame, its bytes 2 to 18 (R40). -/
def framePayload (f : Frame) : Payload :=
  Vector.ofFn fun i : Fin Config.payloadMax =>
    f[i.val + 2]'(by have h : i.val < 17 := i.isLt; show i.val + 2 < 20; omega)

/-- The frame with the given head byte, command byte, payload field and checksum byte, by the byte map of R35 and
R40. -/
def frameOf (head cmd : Byte) (payload : Payload) (checksum : Byte) : Frame :=
  Vector.ofFn fun i : Fin Config.frameLen =>
    if i.val = 0 then head
    else if i.val = 1 then cmd
    else if h : i.val - 2 < Config.payloadMax then payload[i.val - 2]
    else checksum

/-- Frame byte `i` is bits `8*i+7 : 8*i` of the 160-bit value (R32). -/
def unpackFrame (v : BitVec (8 * Config.frameLen)) : Frame :=
  Vector.ofFn fun i : Fin Config.frameLen => v.extractLsb' (8 * i.val) 8

/-- A frame as one 160-bit value, byte `i` at bits `8*i+7 : 8*i` (R32). -/
def packFrame (f : Frame) : BitVec (8 * Config.frameLen) :=
  BitVec.ofNat _ (f.toList.foldr (fun b acc => b.toNat + 256 * acc) 0)

/-! ### The frame types (R51) -/

/-- One frame-type row of spec/opcode_table.json: bytes 0 and 1 select it (mask `FFFF`), the payload and
the checksum are its operands (R51). -/
structure FrameRow where
  head : Byte
  cmd : Byte
  instr : Payload → Byte → Instr

/-- The eight frame types, in the table's order (R51). -/
def frameRows : List FrameRow :=
  [ ⟨Config.headCommand, Config.cmdPower, .commandPower⟩,
    ⟨Config.headCommand, Config.cmdBrightness, .commandBrightness⟩,
    ⟨Config.headCommand, Config.cmdColor, .commandColor⟩,
    ⟨Config.headCommand, Config.cmdSegment, .commandSegment⟩,
    ⟨Config.headRequest, Config.cmdPower, .requestPower⟩,
    ⟨Config.headRequest, Config.cmdBrightness, .requestBrightness⟩,
    ⟨Config.headRequest, Config.cmdColor, .requestColor⟩,
    ⟨Config.headRequest, Config.cmdSegment, .requestSegment⟩ ]

/-- The row a frame matches: its bytes 0 and 1 are the row's (R51). -/
def frameRow? (f : Frame) : Option FrameRow :=
  frameRows.find? fun row => f[0] == row.head && f[1] == row.cmd

/-- A presented frame as an operation: the frame type it matches or, matching none, plain DECODE (R51:
such a frame still decodes). -/
def decodeFrame (f : Frame) : Instr :=
  match frameRow? f with
  | some row => row.instr (framePayload f) f[19]
  | none => .decode f.toList

/-- The spelling the decoder gives: a frame of a listed type is spelled by its row's constructor, so the
term `.decode` of such a frame, which means the same, is not the spelled one (log entry 6). -/
def Instr.spelled : Instr → Bool
  | .encode _ _ _ _ => true
  | .decode fbytes =>
    match frameOfBytes? fbytes with
    | some f => (frameRow? f).isNone
    | none => true
  | .readEncStatus => true
  | .readTxf _ => true
  | .readDecStatus => true
  | .readRxp _ => true
  | .reset => true
  | .commandPower _ _ => true
  | .commandBrightness _ _ => true
  | .commandColor _ _ => true
  | .commandSegment _ _ => true
  | .requestPower _ _ => true
  | .requestBrightness _ _ => true
  | .requestColor _ _ => true
  | .requestSegment _ _ => true

/-! ### The decoder and the encoder -/

/-- The operation a presented request asks for, or why it is none (R45, R126). -/
def decode : Request → Except DecodeError Instr
  | .encReq headSel cmdSel plen pdata => .ok (.encode (Head.ofSel headSel) (Cmd.ofSel cmdSel) plen pdata)
  | .decReq fbytes =>
    match frameOfBytes? fbytes with
    | some f => .ok (decodeFrame f)
    | none => .error .frameLength
  | .encStatusReq => .ok .readEncStatus
  | .txfReq i => if i < Config.frameLen then .ok (.readTxf i) else .error .txfIndex
  | .decStatusReq => .ok .readDecStatus
  | .rxpReq field => if field.wf then .ok (.readRxp field) else .error .rxDataIndex
  | .resetReq => .ok .reset
  | .unlisted => .error .unlistedOperation

/-- The bytes of a frame of a listed type, as presented at the decoder port (R40, R51). -/
def frameReq (head cmd : Byte) (payload : Payload) (checksum : Byte) : Request :=
  .decReq (frameOf head cmd payload checksum).toList

/-- The request that asks for an operation (R26, R45, R51). -/
def encode : Instr → Request
  | .encode head cmd plen pdata => .encReq head.sel cmd.sel plen pdata
  | .decode fbytes => .decReq fbytes
  | .readEncStatus => .encStatusReq
  | .readTxf i => .txfReq i
  | .readDecStatus => .decStatusReq
  | .readRxp field => .rxpReq field
  | .reset => .resetReq
  | .commandPower payload checksum => frameReq Config.headCommand Config.cmdPower payload checksum
  | .commandBrightness payload checksum => frameReq Config.headCommand Config.cmdBrightness payload checksum
  | .commandColor payload checksum => frameReq Config.headCommand Config.cmdColor payload checksum
  | .commandSegment payload checksum => frameReq Config.headCommand Config.cmdSegment payload checksum
  | .requestPower payload checksum => frameReq Config.headRequest Config.cmdPower payload checksum
  | .requestBrightness payload checksum => frameReq Config.headRequest Config.cmdBrightness payload checksum
  | .requestColor payload checksum => frameReq Config.headRequest Config.cmdColor payload checksum
  | .requestSegment payload checksum => frameReq Config.headRequest Config.cmdSegment payload checksum

/-! ### The words of spec/opcode_table.json -/

/-- The request a table word stands for (log entry 7). A word of 160 bits is a frame in the packing of R32,
presented at the decoder port. A PORT row has no operation bits at all (R45: match and mask are zero), so
a word of another size is read as the number of the port in the order of R45's table, its operands zero;
a number past the seventh is no operation. -/
def tableRequest (nbits w : Nat) : Request :=
  if nbits = 8 * Config.frameLen then .decReq (unpackFrame (BitVec.ofNat _ w)).toList
  else match w with
    | 0 => .encReq 0 0 0 (Vector.replicate _ 0)
    | 1 => .decReq (List.replicate Config.frameLen 0)
    | 2 => .encStatusReq
    | 3 => .txfReq 0
    | 4 => .decStatusReq
    | 5 => .rxpReq .head
    | 6 => .resetReq
    | _ => .unlisted

/-- The operation the decoder reads from a table word (log entry 7). -/
def decodeTableWord (nbits w : Nat) : Option Instr :=
  (decode (tableRequest nbits w)).toOption

end Sys2Proof
end

