-- ==== Sys2Proof/Machine/State.lean ====
section
/-! DEFINITION. The state of the block: the latches of its two units (R10 to R18), the two response outputs
(R27), and the requests the host has still to be served (the model's own field, log entry 1). Plain data.
The block has no program counter (R19), no memory (R30), no interrupt state (R105) and no modes (R110). -/

namespace Sys2Proof.Machine

/-- `ENC_STATUS` (R13): the reserved code 3 is not representable (U4). -/
inductive EncStatus where
  /-- Code 0: no ENCODE has completed since reset. -/
  | none
  /-- Code 1: the last ENCODE succeeded. -/
  | ok
  /-- Code 2: the last ENCODE raised `EncodingError`. -/
  | encodingError
  deriving DecidableEq, Repr

/-- `DEC_STATUS` (R15): the reserved code 3 is not representable (U4). -/
inductive DecStatus where
  /-- Code 0: no DECODE has completed since reset. -/
  | none
  /-- Code 1: the last DECODE succeeded. -/
  | ok
  /-- Code 2: the last DECODE raised `ChecksumError`. -/
  | checksumError
  deriving DecidableEq, Repr

/-- `RX_HEAD_CLASS` (R17, R46). -/
inductive HeadClass where
  | command
  | request
  | unknown
  deriving DecidableEq, Repr

/-- `RX_CMD_CLASS` (R17, R47). -/
inductive CmdClass where
  | power
  | brightness
  | color
  | segment
  | unknown
  deriving DecidableEq, Repr

/-- The latches of the encoder unit (R10, R13, R14). `TXF[0..19]` is written and invalidated as a whole
(R14), so it is one optional frame (R12). -/
structure EncUnit where
  /-- `ENC_STATUS` (R13). -/
  status : EncStatus
  /-- `TXF[0..19]`, or no value (R12, R14). -/
  txf : Option Frame
  deriving DecidableEq, Repr

/-- The latches of the decoder unit (R10, R15 to R18), each data latch with a value or none (R12). -/
structure DecUnit where
  /-- `DEC_STATUS` (R15). -/
  status : DecStatus
  /-- `RX_HEAD` (R16). -/
  rxHead : Option Byte
  /-- `RX_HEAD_CLASS` (R17). -/
  rxHeadClass : Option HeadClass
  /-- `RX_CMD` (R16). -/
  rxCmd : Option Byte
  /-- `RX_CMD_CLASS` (R17). -/
  rxCmdClass : Option CmdClass
  /-- `RX_DATA[0..16]` (R18). -/
  rxData : Option Payload
  deriving DecidableEq, Repr

/-- The packet of a DECODE response: the values of the `RX_*` latches (R94). -/
structure Packet where
  head : Byte
  headClass : HeadClass
  cmd : Byte
  cmdClass : CmdClass
  data : Payload
  deriving DecidableEq, Repr

/-- What an operation of the encoder unit returned to the host (R27, R90, R91, R94). -/
inductive EncResponse where
  /-- Nothing has been returned since power-on or RESET. -/
  | nothing
  /-- The response of ENCODE: the new status and, when it is OK, the new frame (R94). -/
  | encode (status : EncStatus) (frame : Option Frame)
  /-- The 2-bit code READ_ENC_STATUS returns (R90). -/
  | status (code : BitVec 2)
  /-- The byte READ_TXF returns (R91). -/
  | txf (value : Byte)
  deriving DecidableEq, Repr

/-- The value READ_RXP returns, at the width R93 gives the field. -/
inductive RxValue where
  | head (value : Byte)
  | headClass (code : BitVec 2)
  | cmd (value : Byte)
  | cmdClass (code : BitVec 3)
  | data (value : Byte)
  deriving DecidableEq, Repr

/-- What an operation of the decoder unit returned to the host (R27, R92, R93, R94). -/
inductive DecResponse where
  /-- Nothing has been returned since power-on or RESET. -/
  | nothing
  /-- The response of DECODE: the new status and, when it is OK, the new packet (R94). -/
  | decode (status : DecStatus) (packet : Option Packet)
  /-- The 2-bit code READ_DEC_STATUS returns (R92). -/
  | status (code : BitVec 2)
  /-- The value READ_RXP returns (R93). -/
  | rxp (value : RxValue)
  deriving DecidableEq, Repr

/-- The state of the block, with its outputs and the host's waiting requests. -/
structure State where
  /-- The encoder unit's latches (R10). -/
  enc : EncUnit
  /-- The decoder unit's latches (R10). -/
  dec : DecUnit
  /-- The encoder unit's last response (R27; log entry 2). -/
  encResponse : EncResponse
  /-- The decoder unit's last response (R27; log entry 2). -/
  decResponse : DecResponse
  /-- The requests the host issues next, first one first: the model's own field (log entry 1). -/
  requests : List Request
  deriving DecidableEq, Repr

/-- The reasons for which a step stops with a fault: none. The block has no fault that persists, no stuck
state and no hang (R8), and its two errors are ordinary results, not faults (R104), so no operation raises one
and the type has no constructor. -/
inductive Fault where
  deriving DecidableEq, Repr

/-- The reasons for which a request is refused: no step, no value, no state change (R8, R126). Safe: the
model stops where a physical implementation might return anything (U3). -/
inductive Refusal where
  /-- Raised by an arm of `exec` whose operation has no meaning yet: none at present. Safe. -/
  | notModelled (mnemonic : String)
  /-- Raised by the decoder, and by the meaning of a term that is not well formed: what was presented is no
  operation of the block (R126 items 1, 2, 3 and 6). Safe. -/
  | rejected (why : DecodeError)
  /-- Raised by READ_TXF: `TXF` holds no value, `ENC_STATUS` is not OK (R91, R126 item 1). Safe. -/
  | txfNone
  /-- Raised by READ_RXP: the `RX_*` latches hold no value, `DEC_STATUS` is not OK (R93, R126 item 2). Safe. -/
  | rxNone
  deriving DecidableEq, Repr

/-- The encoder unit after power-on (R25). -/
def EncUnit.reset : EncUnit where
  status := .none
  txf := Option.none

/-- The decoder unit after power-on (R25). -/
def DecUnit.reset : DecUnit where
  status := .none
  rxHead := Option.none
  rxHeadClass := Option.none
  rxCmd := Option.none
  rxCmdClass := Option.none
  rxData := Option.none

/-- The block right after power-on: the latches of R25, nothing returned yet (log entry 2), and no request
presented yet (log entry 1). -/
def State.reset : State where
  enc := EncUnit.reset
  dec := DecUnit.reset
  encResponse := .nothing
  decResponse := .nothing
  requests := []

end Sys2Proof.Machine
end

