-- ==== Sys2Proof/Machine/Flags.lean ====
section
/-! DEFINITION. Everything the block computes as a status or a class: the status codes (R13, R15), the classes
of received bytes (R46, R47) and their codes (R17). There are no other flags (R20). -/

namespace Sys2Proof.Machine

/-- The 2-bit code of `ENC_STATUS` (R13). -/
def EncStatus.code : EncStatus → BitVec 2
  | .none => 0
  | .ok => 1
  | .encodingError => 2

/-- The 2-bit code of `DEC_STATUS` (R15). -/
def DecStatus.code : DecStatus → BitVec 2
  | .none => 0
  | .ok => 1
  | .checksumError => 2

/-- `head_class(b)` (R46). -/
def headClass (b : Byte) : HeadClass :=
  if b = Config.headCommand then .command
  else if b = Config.headRequest then .request
  else .unknown

/-- `cmd_class(b)` (R47). -/
def cmdClass (b : Byte) : CmdClass :=
  if b = Config.cmdPower then .power
  else if b = Config.cmdBrightness then .brightness
  else if b = Config.cmdColor then .color
  else if b = Config.cmdSegment then .segment
  else .unknown

/-- The 2-bit code of a head class (R17). -/
def HeadClass.code : HeadClass → BitVec 2
  | .command => 0
  | .request => 1
  | .unknown => 2

/-- The 3-bit code of a command class (R17). -/
def CmdClass.code : CmdClass → BitVec 3
  | .power => 0
  | .brightness => 1
  | .color => 2
  | .segment => 3
  | .unknown => 4

end Sys2Proof.Machine
end

