-- ==== Sys2Proof/Machine/Checksum.lean ====
section
/-! DEFINITION. The XOR checksum generator and validator (R60 to R62). It is no operation of its own: ENCODE
and DECODE use it (R65). The mask `& 0xFF` of R60 is the byte's width (R63 item 2). -/

namespace Sys2Proof.Machine

/-- `xor_fold(s)`: the XOR of all bytes of `s`, from `CSUM_SEED` (R60). -/
def xorFold (s : List Byte) : Byte :=
  s.foldl (fun acc b => acc ^^^ b) Config.csumSeed

/-- `csum19(f)`: the fold of the first nineteen bytes, never byte 19 (R61). -/
def csum19 (f : List Byte) : Byte :=
  xorFold (f.take Config.csumSpan)

/-- `valid(f)`: byte 19 is the checksum of bytes 0 to 18 (R62). -/
def valid (f : Frame) : Bool :=
  f[19] == csum19 f.toList

end Sys2Proof.Machine
end

