-- ==== Sys2Proof/Machine/Operands.lean ====
section
/-! DEFINITION. The operand forms: selectors to wire bytes (R49), payload assembly and padding (R43), the
frame ENCODE builds (R71). The fields of a received frame are read in Sys2Proof/Decode.lean. -/

namespace Sys2Proof.Machine

/-- `head_byte`: the wire byte of a head selector (R49). -/
def headByte : Head → Byte
  | .command => Config.headCommand
  | .request => Config.headRequest

/-- `cmd_byte`: the wire byte of a command selector (R49). -/
def cmdByte : Cmd → Byte
  | .power => Config.cmdPower
  | .brightness => Config.cmdBrightness
  | .color => Config.cmdColor
  | .segment => Config.cmdSegment

/-- The payload is longer than the field: the unsigned comparison `plen > 17` (R63 item 6, R72). -/
def payloadTooLong (plen : PayloadLen) : Bool :=
  decide (Config.payloadMax < plen.toNat)

/-- The payload field: the operand's bytes below `plen`, padding from there up, whatever the operand lines
carry there (R43, R73). -/
def padPayload (plen : PayloadLen) (pdata : Payload) : Payload :=
  Vector.ofFn fun i : Fin Config.payloadMax => if i.val < plen.toNat then pdata[i] else Config.pad

/-- The frame of a head byte, a command byte and a payload field, its checksum that of these nineteen bytes (R40,
R44). -/
def sealFrame (head cmd : Byte) (payload : Payload) : Frame :=
  frameOf head cmd payload (csum19 ([head, cmd] ++ payload.toList))

/-- The frame ENCODE builds from its operands (R71). -/
def buildFrame (head : Head) (cmd : Cmd) (plen : PayloadLen) (pdata : Payload) : Frame :=
  sealFrame (headByte head) (cmdByte cmd) (padPayload plen pdata)

end Sys2Proof.Machine
end

