-- ==== Sys2Proof/Machine/Ops.lean ====
section
/-! DEFINITION. The named operations on the state that the meanings share: writing a unit's latches together
(R34), raising an error (R103, the block's whole exception mechanism: nothing is saved, nothing is entered and
there is no return from it, R107 and R108), the responses (R27, R94), and presenting a byte sequence to DECODE. -/

namespace Sys2Proof.Machine

/-! ### Writing one part of the state -/

/-- The encoder unit's latches become `e`. -/
def State.setEnc (s : State) (e : EncUnit) : State := { s with enc := e }

/-- The decoder unit's latches become `d`. -/
def State.setDec (s : State) (d : DecUnit) : State := { s with dec := d }

/-- The encoder unit answers `r` (R27). -/
def State.setEncResponse (s : State) (r : EncResponse) : State := { s with encResponse := r }

/-- The decoder unit answers `r` (R27). -/
def State.setDecResponse (s : State) (r : DecResponse) : State := { s with decResponse := r }

/-- The host's waiting requests become `rs` (log entry 1). -/
def State.setRequests (s : State) (rs : List Request) : State := { s with requests := rs }

/-! ### The latches as what they hold -/

/-- The encoder unit holding a frame, with status OK (R71). -/
def EncUnit.holding (f : Frame) : EncUnit where
  status := .ok
  txf := some f

/-- The encoder unit after `EncodingError`: status code 2 and no frame (R72, R103). -/
def EncUnit.failed : EncUnit where
  status := .encodingError
  txf := Option.none

/-- The packet of a frame: raw head and command byte, their classes, the payload (R81). -/
def packetOf (f : Frame) : Packet where
  head := f[0]
  headClass := headClass f[0]
  cmd := f[1]
  cmdClass := cmdClass f[1]
  data := framePayload f

/-- The decoder unit holding a packet, with status OK (R81). -/
def DecUnit.holding (p : Packet) : DecUnit where
  status := .ok
  rxHead := some p.head
  rxHeadClass := some p.headClass
  rxCmd := some p.cmd
  rxCmdClass := some p.cmdClass
  rxData := some p.data

/-- The decoder unit after `ChecksumError`: status code 2 and no packet (R82, R103). -/
def DecUnit.failed : DecUnit where
  status := .checksumError
  rxHead := Option.none
  rxHeadClass := Option.none
  rxCmd := Option.none
  rxCmdClass := Option.none
  rxData := Option.none

/-- The packet the `RX_*` latches hold, if every one of them holds a value. -/
def DecUnit.packet (d : DecUnit) : Option Packet :=
  match d.rxHead, d.rxHeadClass, d.rxCmd, d.rxCmdClass, d.rxData with
  | some head, some headClass, some cmd, some cmdClass, some data => some ⟨head, headClass, cmd, cmdClass, data⟩
  | _, _, _, _, _ => none

/-! ### The responses: reads of the latches after the step (R94) -/

/-- ENCODE's response: the status and, only when it is OK, the frame, read from the latches (R94). -/
def EncUnit.response (e : EncUnit) : EncResponse :=
  .encode e.status (if e.status = .ok then e.txf else none)

/-- DECODE's response: the status and, only when it is OK, the packet, read from the latches (R94). -/
def DecUnit.response (d : DecUnit) : DecResponse :=
  .decode d.status (if d.status = .ok then d.packet else none)

/-- The encoder unit's latches become `e`, and ENCODE's response is read from them (R34, R94). -/
def State.finishEncode (s : State) (e : EncUnit) : State :=
  (s.setEnc e).setEncResponse e.response

/-- The decoder unit's latches become `d`, and DECODE's response is read from them (R34, R94). -/
def State.finishDecode (s : State) (d : DecUnit) : State :=
  (s.setDec d).setDecResponse d.response

/-! ### Raising an error (R100, R103) -/

/-- The two errors of the block (R100). -/
inductive CodecError where
  | encodingError
  | checksumError
  deriving DecidableEq, Repr

/-- `raise`: the unit's status takes the error's code, its data latches are invalidated, the response carries
the status and no data, and nothing else changes; control goes nowhere (R103, R107). -/
def State.raise (s : State) : CodecError → State
  | .encodingError => s.finishEncode EncUnit.failed
  | .checksumError => s.finishDecode DecUnit.failed

/-! ### The shared bodies of the operations -/

/-- DECODE of a frame (R81): the check comes first (R82). -/
def State.receive (s : State) (f : Frame) : State :=
  if valid f then s.finishDecode (DecUnit.holding (packetOf f)) else s.raise .checksumError

/-- A latch's value, or the given refusal where the latch holds none (R12, R126). -/
def latched {α : Type} (latch : Option α) (why : Refusal) : Except Refusal α :=
  match latch with
  | some v => .ok v
  | none => .error why

/-- Byte `i` of `TXF`, or why the read is refused (R91). In a state that no run reaches, status OK with no
frame, the latch still has no value to give. -/
def EncUnit.readTxf (e : EncUnit) (i : Nat) : Except Refusal Byte :=
  if e.status = .ok then
    if h : i < Config.frameLen then (latched e.txf .txfNone).map fun f => f[i]
    else .error (.rejected .txfIndex)
  else .error .txfNone

/-- The value of a decoder latch by field name, or why it has none (R93). -/
def DecUnit.rxLatch (d : DecUnit) : RxField → Except Refusal RxValue
  | .head => (latched d.rxHead .rxNone).map .head
  | .headClass => (latched d.rxHeadClass .rxNone).map fun c => .headClass c.code
  | .cmd => (latched d.rxCmd .rxNone).map .cmd
  | .cmdClass => (latched d.rxCmdClass .rxNone).map fun c => .cmdClass c.code
  | .data i =>
    if h : i < Config.payloadMax then (latched d.rxData .rxNone).map fun p => .data p[i]
    else .error (.rejected .rxDataIndex)

/-- A read of a decoder latch: refused unless `DEC_STATUS` is OK (R93). -/
def DecUnit.readRxp (d : DecUnit) (field : RxField) : Except Refusal RxValue :=
  if d.status = .ok then d.rxLatch field else .error .rxNone

end Sys2Proof.Machine
end

