-- ==== Sys2Proof/Machine/Encode.lean ====
section
/-! DEFINITION. The encoder's operation: ENCODE (R70 to R77). -/

namespace Sys2Proof.Machine

/-- ENCODE (R71): `EncodingError` when `plen > 17`, before anything is read (R72); otherwise the frame goes to
`TXF` and the status becomes OK. It makes no other check (R74). -/
def execEncode (head : Head) (cmd : Cmd) (plen : PayloadLen) (pdata : Payload) (s : State) :
    Host.Outcome State Fault Refusal :=
  if payloadTooLong plen then .next (s.raise .encodingError)
  else .next (s.finishEncode (EncUnit.holding (buildFrame head cmd plen pdata)))

end Sys2Proof.Machine
end

