-- ==== Sys2Proof/Machine/Read.lean ====
section
/-! DEFINITION. The host's reads (R90 to R93): each returns a latch and writes none. -/

namespace Sys2Proof.Machine

/-- READ_ENC_STATUS: the 2-bit code, never refused (R90). -/
def execReadEncStatus (s : State) : Host.Outcome State Fault Refusal :=
  .next (s.setEncResponse (.status s.enc.status.code))

/-- READ_TXF: byte `i` of the frame; refused unless `ENC_STATUS` is OK and `i` is 0 to 19 (R91). -/
def execReadTxf (i : Nat) (s : State) : Host.Outcome State Fault Refusal :=
  match s.enc.readTxf i with
  | .ok b => .next (s.setEncResponse (.txf b))
  | .error r => .refused r

/-- READ_DEC_STATUS: the 2-bit code, never refused (R92). -/
def execReadDecStatus (s : State) : Host.Outcome State Fault Refusal :=
  .next (s.setDecResponse (.status s.dec.status.code))

/-- READ_RXP: the named latch; refused unless `DEC_STATUS` is OK and a `DATA` index is 0 to 16 (R93). -/
def execReadRxp (field : RxField) (s : State) : Host.Outcome State Fault Refusal :=
  match s.dec.readRxp field with
  | .ok v => .next (s.setDecResponse (.rxp v))
  | .error r => .refused r

end Sys2Proof.Machine
end

