-- ==== Sys2Proof/Machine/Receive.lean ====
section
/-! DEFINITION. The decoder's operation: DECODE of any twenty bytes (R80 to R88), and the eight frame types of
R51, each of them a frame of that type presented to DECODE (log entry 6). -/

namespace Sys2Proof.Machine

/-- DECODE (R81); a sequence that is not twenty bytes is refused, not an error (R88, R106). -/
def execDecode (fbytes : List Byte) (s : State) : Host.Outcome State Fault Refusal :=
  match frameOfBytes? fbytes with
  | some f => .next (s.receive f)
  | none => .refused (.rejected .frameLength)

/-- A received COMMAND.POWER frame (R51, R81). -/
def execCommandPower (payload : Payload) (checksum : Byte) (s : State) : Host.Outcome State Fault Refusal :=
  .next (s.receive (frameOf Config.headCommand Config.cmdPower payload checksum))

/-- A received COMMAND.BRIGHTNESS frame (R51, R81). -/
def execCommandBrightness (payload : Payload) (checksum : Byte) (s : State) : Host.Outcome State Fault Refusal :=
  .next (s.receive (frameOf Config.headCommand Config.cmdBrightness payload checksum))

/-- A received COMMAND.COLOR frame (R51, R81). -/
def execCommandColor (payload : Payload) (checksum : Byte) (s : State) : Host.Outcome State Fault Refusal :=
  .next (s.receive (frameOf Config.headCommand Config.cmdColor payload checksum))

/-- A received COMMAND.SEGMENT frame (R51, R81). -/
def execCommandSegment (payload : Payload) (checksum : Byte) (s : State) : Host.Outcome State Fault Refusal :=
  .next (s.receive (frameOf Config.headCommand Config.cmdSegment payload checksum))

/-- A received REQUEST.POWER frame (R51, R81). -/
def execRequestPower (payload : Payload) (checksum : Byte) (s : State) : Host.Outcome State Fault Refusal :=
  .next (s.receive (frameOf Config.headRequest Config.cmdPower payload checksum))

/-- A received REQUEST.BRIGHTNESS frame (R51, R81). -/
def execRequestBrightness (payload : Payload) (checksum : Byte) (s : State) : Host.Outcome State Fault Refusal :=
  .next (s.receive (frameOf Config.headRequest Config.cmdBrightness payload checksum))

/-- A received REQUEST.COLOR frame (R51, R81). -/
def execRequestColor (payload : Payload) (checksum : Byte) (s : State) : Host.Outcome State Fault Refusal :=
  .next (s.receive (frameOf Config.headRequest Config.cmdColor payload checksum))

/-- A received REQUEST.SEGMENT frame (R51, R81). -/
def execRequestSegment (payload : Payload) (checksum : Byte) (s : State) : Host.Outcome State Fault Refusal :=
  .next (s.receive (frameOf Config.headRequest Config.cmdSegment payload checksum))

end Sys2Proof.Machine
end

