-- ==== Sys2Proof/Machine/Reset.lean ====
section
/-! DEFINITION. RESET (R120): both units back to the power-on state of R25 in one step. -/

namespace Sys2Proof.Machine

/-- RESET (R120): every latch of both units takes its reset value; nothing is returned, so both response
outputs are empty (log entry 2); the host's later requests still stand (log entry 1). -/
def execReset (s : State) : Host.Outcome State Fault Refusal :=
  .next ((((s.setEnc EncUnit.reset).setDec DecUnit.reset).setEncResponse .nothing).setDecResponse .nothing)

end Sys2Proof.Machine
end

