-- ==== Sys2Proof/Machine/Dispatch.lean ====
section
/-! DEFINITION. The dispatch: one arm per constructor of `Instr` (R45, R51). -/

namespace Sys2Proof.Machine

/-- What one operation does to the state. -/
def exec (i : Instr) (s : State) : Host.Outcome State Fault Refusal :=
  match i with
  | .encode head cmd plen pdata => Sys2Proof.Machine.execEncode head cmd plen pdata s
  | .decode fbytes => Sys2Proof.Machine.execDecode fbytes s
  | .readEncStatus => Sys2Proof.Machine.execReadEncStatus s
  | .readTxf k => Sys2Proof.Machine.execReadTxf k s
  | .readDecStatus => Sys2Proof.Machine.execReadDecStatus s
  | .readRxp field => Sys2Proof.Machine.execReadRxp field s
  | .reset => Sys2Proof.Machine.execReset s
  | .commandPower payload checksum => Sys2Proof.Machine.execCommandPower payload checksum s
  | .commandBrightness payload checksum => Sys2Proof.Machine.execCommandBrightness payload checksum s
  | .commandColor payload checksum => Sys2Proof.Machine.execCommandColor payload checksum s
  | .commandSegment payload checksum => Sys2Proof.Machine.execCommandSegment payload checksum s
  | .requestPower payload checksum => Sys2Proof.Machine.execRequestPower payload checksum s
  | .requestBrightness payload checksum => Sys2Proof.Machine.execRequestBrightness payload checksum s
  | .requestColor payload checksum => Sys2Proof.Machine.execRequestColor payload checksum s
  | .requestSegment payload checksum => Sys2Proof.Machine.execRequestSegment payload checksum s

end Sys2Proof.Machine
end

