-- ==== Sys2Proof/Machine/Step.lean ====
section
/-! DEFINITION. One step of the block: the next request the host issued is decoded and served, whole (R34);
with no request presented the block waits (R95). -/

namespace Sys2Proof.Machine

/-- One step: serve the first waiting request (log entry 1). A request that is no operation is refused before
any error (R106); with none waiting nothing changes (log entry 3). -/
def step (s : State) : Host.Outcome State Fault Refusal :=
  match s.requests with
  | [] => .next s
  | r :: rest =>
    match decode r with
    | .ok i => exec i (s.setRequests rest)
    | .error e => .refused (.rejected e)

/-- `s` with the request a table word stands for presented first, so that the next step serves it (log
entry 7). -/
def State.withFetchWord (s : State) (nbits w : Nat) : State :=
  s.setRequests (tableRequest nbits w :: s.requests)

end Sys2Proof.Machine
end

