-- ==== Sys2Proof/Safety.lean ====
section
/-! DEFINITION. The terms the statements are made in: the invariants of R24, the host's duties (R96, R126), the
operations of each unit, and the host's requests to one unit. -/

namespace Sys2Proof.Machine

/-- R24 items 1 and 3 for the encoder unit: the status is OK exactly when `TXF` holds a value, and a held
frame has a defined head byte, a defined command byte and the checksum of its first nineteen bytes. -/
abbrev EncUnit.Inv (e : EncUnit) : Prop :=
  (e.status = .ok ↔ e.txf.isSome) ∧
  ∀ f ∈ e.txf,
    (f[0] = Config.headCommand ∨ f[0] = Config.headRequest) ∧
    (f[1] = Config.cmdPower ∨ f[1] = Config.cmdBrightness ∨ f[1] = Config.cmdColor ∨ f[1] = Config.cmdSegment) ∧
    f[19] = csum19 f.toList

/-- R24 items 2 and 4 for the decoder unit: the status is OK exactly when each `RX_*` latch holds a value (so
they hold values together), and the classes are those of the raw bytes. -/
abbrev DecUnit.Inv (d : DecUnit) : Prop :=
  (d.status = .ok ↔ d.rxHead.isSome) ∧
  (d.status = .ok ↔ d.rxHeadClass.isSome) ∧
  (d.status = .ok ↔ d.rxCmd.isSome) ∧
  (d.status = .ok ↔ d.rxCmdClass.isSome) ∧
  (d.status = .ok ↔ d.rxData.isSome) ∧
  d.rxHeadClass = d.rxHead.map headClass ∧
  d.rxCmdClass = d.rxCmd.map cmdClass

/-- The invariant of the block (R24; item 5 holds by the types of the latches). -/
abbrev State.Inv (s : State) : Prop := s.enc.Inv ∧ s.dec.Inv

/-- The host meets its duty for an operation (R96, R126): the operands are in range, and a data latch is read
only when its unit's status is OK. -/
def dutyMet (i : Instr) (s : State) : Bool :=
  i.wf &&
  match i with
  | .encode _ _ _ _ => true
  | .decode _ => true
  | .readEncStatus => true
  | .readTxf _ => s.enc.status == .ok
  | .readDecStatus => true
  | .readRxp _ => s.dec.status == .ok
  | .reset => true
  | .commandPower _ _ => true
  | .commandBrightness _ _ => true
  | .commandColor _ _ => true
  | .commandSegment _ _ => true
  | .requestPower _ _ => true
  | .requestBrightness _ _ => true
  | .requestColor _ _ => true
  | .requestSegment _ _ => true

/-- The request acts on the encoder unit: it is addressed to it, or it is RESET (R37). -/
def actsOnEncoder (r : Request) : Bool :=
  r.unit == some .encoder || r.unit == some .both

/-- The request acts on the decoder unit: it is addressed to it, or it is RESET (R37). -/
def actsOnDecoder (r : Request) : Bool :=
  r.unit == some .decoder || r.unit == some .both

/-- READ_TXF and READ_RXP are the operations that may be refused although their operands are in range (R126
items 1 and 2); this is every other operation. -/
def neverRefused : Instr → Bool
  | .encode _ _ _ _ => true
  | .decode _ => true
  | .readEncStatus => true
  | .readTxf _ => false
  | .readDecStatus => true
  | .readRxp _ => false
  | .reset => true
  | .commandPower _ _ => true
  | .commandBrightness _ _ => true
  | .commandColor _ _ => true
  | .commandSegment _ _ => true
  | .requestPower _ _ => true
  | .requestBrightness _ _ => true
  | .requestColor _ _ => true
  | .requestSegment _ _ => true

/-- The XOR of frame bytes 0 to 18, written out (R61). -/
def xorOfNineteen (f : Frame) : Byte :=
  f[0] ^^^ f[1] ^^^ f[2] ^^^ f[3] ^^^ f[4] ^^^ f[5] ^^^ f[6] ^^^ f[7] ^^^ f[8] ^^^ f[9] ^^^ f[10] ^^^ f[11] ^^^
    f[12] ^^^ f[13] ^^^ f[14] ^^^ f[15] ^^^ f[16] ^^^ f[17] ^^^ f[18]

/-- `f` with bit `b` of byte `i` flipped (R64). -/
def flipBit (f : Frame) (i : Fin Config.frameLen) (b : Fin 8) : Frame :=
  f.set i (f[i] ^^^ BitVec.twoPow 8 b)

/-- In how many of the twenty bytes the frames differ at bit position `b` (R64 item 3). -/
def flipsAt (f g : Frame) (b : Nat) : Nat :=
  (List.finRange Config.frameLen).countP fun i => f[i].getLsbD b != g[i].getLsbD b

/-- The decoder latches hold no packet: every `RX_*` latch is without value (R12). -/
def DecUnit.holdsNone (d : DecUnit) : Prop :=
  d.rxHead = none ∧ d.rxHeadClass = none ∧ d.rxCmd = none ∧ d.rxCmdClass = none ∧ d.rxData = none

/-- The frame type `make`, with head byte `h` and command byte `c`, does what DECODE does with such a frame: with
a good checksum it completes with status OK, the two raw bytes, the two classes and the payload in the latches and
in the response; with a bad one it completes with `ChecksumError` and no packet; the encoder's latches stay. -/
def receivesAs (make : Payload → Byte → Instr) (h c : Byte) (hc : HeadClass) (cc : CmdClass) : Prop :=
  ∀ (payload : Payload) (checksum : Byte) (s : State), ∃ t, exec (make payload checksum) s = .next t ∧ t.enc = s.enc ∧
    if checksum = h ^^^ c ^^^ xorFold payload.toList then
      t.dec.status = .ok ∧ t.dec.rxHead = some h ∧ t.dec.rxHeadClass = some hc ∧ t.dec.rxCmd = some c ∧
        t.dec.rxCmdClass = some cc ∧ t.dec.rxData = some payload ∧
        t.decResponse = .decode .ok (some ⟨h, hc, c, cc, payload⟩)
    else t.dec.status = .checksumError ∧ t.dec.holdsNone ∧ t.decResponse = .decode .checksumError none

/-- The host issues these operations one after the other (R97), stopping at the first refusal. -/
def issue : List Instr → State → Host.Outcome State Fault Refusal
  | [], s => .next s
  | i :: rest, s =>
    match exec i s with
    | .next t => issue rest t
    | .fault r => .fault r
    | .refused r => .refused r

/-- The host meets its duty in a run of these requests from `s`: each is an operation of the block, and its duty is
met in the state it is served in (R96, R126). Nothing is asked of a request that comes after a stop. -/
def dutiesMet : List Request → State → Bool
  | [], _ => true
  | r :: rest, s =>
    match decode r with
    | .error _ => false
    | .ok i =>
      dutyMet i s &&
        match exec i (s.setRequests rest) with
        | .next t => dutiesMet rest t
        | .fault _ => true
        | .refused _ => true

/-- `n` steps, stopping at the first refusal: the host interface's own `Host.Core.run` of this machine. -/
def runSteps : Nat → State → Host.Outcome State Fault Refusal
  | 0, s => .next s
  | n + 1, s =>
    match step s with
    | .next t => runSteps n t
    | .fault r => .fault r
    | .refused r => .refused r

/-- One step for each waiting request of `s`: a run in the sense of R97. -/
def runRequests (s : State) : Host.Outcome State Fault Refusal :=
  runSteps s.requests.length s

end Sys2Proof.Machine
end

