-- ==== Sys2Proof/Certificates/Slice0/Obligations.lean ====
section
/-! DEFINITION. The statements about the block, from the numbered rules of the spec. A literal of the spec is
written here as the spec writes it, so that a wrong constant or table of the model makes a statement false. -/

open Sys2Proof Sys2Proof.Machine

/-! ### Constants, requests, frames -/

/-- R5: the constants of the block have the values the table gives them. -/
def Obligations.ConstantsHaveTheSpecsValues : Prop :=
  Config.frameLen = 20 ∧ Config.payloadMax = 17 ∧ Config.csumSpan = 19 ∧ Config.headCommand = 0x33 ∧
    Config.headRequest = 0xAA ∧ Config.cmdPower = 0x01 ∧ Config.cmdBrightness = 0x04 ∧ Config.cmdColor = 0x05 ∧
    Config.cmdSegment = 0xA5 ∧ Config.pad = 0x00 ∧ Config.plenW = 8 ∧ Config.csumSeed = 0x00

/-- Requests written out from R26, R45 and R51 decode to the operation they stand for: an ENCODE with the highest
selectors, one frame type (V31), a frame of no type (V37), and the reads. That V31's frame is spelled by its row's
constructor and V37's by `decode` is the model's choice (log entry 6). -/
def Obligations.WrittenRequestsDecode : Prop :=
  decode (.encReq 1 3 2 (Vector.replicate 17 7)) = .ok (.encode .request .segment 2 (Vector.replicate 17 7)) ∧
  decode (.decReq ([0xAA, 0x04, 0x64] ++ List.replicate 16 0x00 ++ [0xCA])) =
    .ok (.requestBrightness ((Vector.replicate 17 0x00).set 0 0x64) 0xCA) ∧
  decode (.decReq ([0x12, 0x34] ++ List.replicate 17 0x00 ++ [0x26])) =
    .ok (.decode ([0x12, 0x34] ++ List.replicate 17 0x00 ++ [0x26])) ∧
  decode .encStatusReq = .ok .readEncStatus ∧ decode (.txfReq 19) = .ok (.readTxf 19) ∧
  decode .decStatusReq = .ok .readDecStatus ∧ decode (.rxpReq (.data 16)) = .ok (.readRxp (.data 16)) ∧
  decode .resetReq = .ok .reset

/-- Decoding the request that asks for an operation gives back that operation, every operand of it, for every
well-formed operation; the one spelling of a frame of a listed type is its row's constructor (log entry 6). -/
def Obligations.DecodeOfEncodeIsIdentity : Prop :=
  ∀ i : Instr, i.wf = true → i.spelled = true → decode (encode i) = .ok i

/-- What the decoder answers is well formed, spelled as the decoder spells, and asks for exactly the request it was
read from: no two requests decode to one operation. -/
def Obligations.DecodedOperationEncodesBack : Prop :=
  ∀ (r : Request) (i : Instr), decode r = .ok i → i.wf = true ∧ i.spelled = true ∧ encode i = r

/-- The decoder rejects, by name, exactly what a request alone shows to be no operation: the length of R126 item 3,
the indices of items 1 and 2, what item 6 does not list. Whether a read's unit has status OK (the rest of items 1 and
2) is a matter of the state, which `exec` decides. -/
def Obligations.DecoderRejectsWhatTheRequestAloneShows : Prop :=
  ∀ r : Request,
    (decode r = .error .frameLength ↔ ∃ l, r = .decReq l ∧ l.length ≠ 20) ∧
    (decode r = .error .txfIndex ↔ ∃ i, r = .txfReq i ∧ 20 ≤ i) ∧
    (decode r = .error .rxDataIndex ↔ ∃ i, r = .rxpReq (.data i) ∧ 17 ≤ i) ∧
    (decode r = .error .unlistedOperation ↔ r = .unlisted)

/-- R32: frame byte `i` is bits `8*i+7 : 8*i` of the 160-bit value, and packing loses nothing either way. -/
def Obligations.FramePackingIsExact : Prop :=
  (∀ (f : Frame) (i : Nat) (h : i < 20), (packFrame f).extractLsb' (8 * i) 8 = f[i]) ∧
  (∀ f : Frame, unpackFrame (packFrame f) = f) ∧ ∀ v : BitVec 160, packFrame (unpackFrame v) = v

/-- A frame type of R51 means DECODE of a frame with that head byte, that command byte, the payload and the
checksum (log entry 6): the two spellings do the same in every state. -/
def Obligations.FrameTypesMeanDecode : Prop :=
  ∀ (p : Payload) (k : Byte) (s : State),
    exec (.commandPower p k) s = exec (.decode ([0x33, 0x01] ++ p.toList ++ [k])) s ∧
    exec (.commandBrightness p k) s = exec (.decode ([0x33, 0x04] ++ p.toList ++ [k])) s ∧
    exec (.commandColor p k) s = exec (.decode ([0x33, 0x05] ++ p.toList ++ [k])) s ∧
    exec (.commandSegment p k) s = exec (.decode ([0x33, 0xA5] ++ p.toList ++ [k])) s ∧
    exec (.requestPower p k) s = exec (.decode ([0xAA, 0x01] ++ p.toList ++ [k])) s ∧
    exec (.requestBrightness p k) s = exec (.decode ([0xAA, 0x04] ++ p.toList ++ [k])) s ∧
    exec (.requestColor p k) s = exec (.decode ([0xAA, 0x05] ++ p.toList ++ [k])) s ∧
    exec (.requestSegment p k) s = exec (.decode ([0xAA, 0xA5] ++ p.toList ++ [k])) s

/-! ### The step -/

/-- A step serves the first waiting request: the operation it decodes to, on the state without that request; what
decodes to none is refused by the decoder's name; with no request the block waits, unchanged (log entries 1, 3). -/
def Obligations.StepServesTheFirstRequest : Prop :=
  (∀ (s : State) (r : Request) (rest : List Request) (i : Instr), s.requests = r :: rest → decode r = .ok i →
    step s = exec i { s with requests := rest }) ∧
  (∀ (s : State) (r : Request) (rest : List Request) (e : DecodeError), s.requests = r :: rest → decode r = .error e →
    step s = .refused (.rejected e)) ∧
  ∀ s : State, s.requests = [] → step s = .next s

/-- A table word that decodes is served by the very next step (log entry 7). -/
def Obligations.TableWordIsServedNext : Prop :=
  ∀ (s : State) (nbits w : Nat) (i : Instr), decodeTableWord nbits w = some i → step (s.withFetchWord nbits w) = exec i s

/-! ### The checksum -/

/-- R60: the fold of the empty sequence is 0x00, the fold of one byte is that byte, and each further byte is XORed
to the fold so far. -/
def Obligations.XorFoldIsTheLoop : Prop :=
  xorFold [] = 0x00 ∧ (∀ b : Byte, xorFold [b] = b) ∧ ∀ (s : List Byte) (b : Byte), xorFold (s ++ [b]) = xorFold s ^^^ b

/-- R63 item 4: the fold of a concatenation is the XOR of the folds, and a sequence followed by its fold folds to
zero. -/
def Obligations.XorFoldOfConcatenation : Prop :=
  (∀ s t : List Byte, xorFold (s ++ t) = xorFold s ^^^ xorFold t) ∧ ∀ s : List Byte, xorFold (s ++ [xorFold s]) = 0x00

/-- R63 item 3: the fold does not depend on the order of the bytes. -/
def Obligations.XorFoldIgnoresOrder : Prop :=
  ∀ s t : List Byte, s.Perm t → xorFold s = xorFold t

/-- R61: the checksum is the XOR of the first nineteen bytes, whatever follows them. -/
def Obligations.ChecksumIsXorOfNineteenBytes : Prop :=
  ∀ (v : Vector Byte 19) (rest : List Byte), csum19 (v.toList ++ rest) =
    v[0] ^^^ v[1] ^^^ v[2] ^^^ v[3] ^^^ v[4] ^^^ v[5] ^^^ v[6] ^^^ v[7] ^^^ v[8] ^^^ v[9] ^^^ v[10] ^^^ v[11] ^^^
      v[12] ^^^ v[13] ^^^ v[14] ^^^ v[15] ^^^ v[16] ^^^ v[17] ^^^ v[18]

/-- R62: a frame is valid exactly when byte 19 is the XOR of bytes 0 to 18, and exactly when the XOR of all
twenty bytes is zero. -/
def Obligations.ValidityOfAFrame : Prop :=
  ∀ f : Frame, (valid f = true ↔ f[19] = xorOfNineteen f) ∧ (valid f = true ↔ xorFold f.toList = 0x00)

/-- R64 items 1 to 4: changing a valid frame is detected exactly when some bit position is flipped in an odd number
of the twenty bytes. -/
def Obligations.DetectionIsOddParity : Prop :=
  ∀ f g : Frame, valid f = true → (valid g = false ↔ ∃ b, b < 8 ∧ flipsAt f g b % 2 = 1)

/-- R64 items 1 and 2, R86: DECODE of a valid frame with any one bit of any of its twenty bytes flipped completes
with `ChecksumError` and no packet. -/
def Obligations.SingleBitFlipIsRejected : Prop :=
  ∀ (f : Frame) (i : Fin 20) (b : Fin 8) (s : State), valid f = true →
    ∃ t, exec (.decode (flipBit f i b).toList) s = .next t ∧ t.dec.status = .checksumError ∧ t.dec.holdsNone

/-- R63 item 5: padding contributes nothing, so the checksum of an encoded frame is the XOR of its head byte, its
command byte and the packet's own payload bytes. -/
def Obligations.EncodedChecksumIgnoresPadding : Prop :=
  ∀ (h : Head) (c : Cmd) (n : PayloadLen) (p : Payload) (s : State), n.toNat ≤ 17 →
    ∃ t f, exec (.encode h c n p) s = .next t ∧ t.enc.txf = some f ∧
      f[19] = headByte h ^^^ cmdByte c ^^^ xorFold (p.toList.take n.toNat)

/-! ### ENCODE -/

/-- R71: ENCODE completes on every operand. Up to seventeen payload bytes it ends OK with the frame of head byte,
command byte, payload, padding and checksum in `TXF` and in the response; above seventeen with `EncodingError`, no
frame, and the status alone in the response. The decoder's latches stay. -/
def Obligations.EncodeBuildsTheFrame : Prop :=
  ∀ (h : Head) (c : Cmd) (n : PayloadLen) (p : Payload) (s : State),
    ∃ t, exec (.encode h c n p) s = .next t ∧ t.dec = s.dec ∧
      if 17 < n.toNat then
        t.enc.status = .encodingError ∧ t.enc.txf = none ∧ t.encResponse = .encode .encodingError none
      else ∃ f : Frame, t.enc.status = .ok ∧ t.enc.txf = some f ∧ t.encResponse = .encode .ok (some f) ∧
        f[0] = (match h with | .command => 0x33 | .request => 0xAA) ∧
        f[1] = (match c with | .power => 0x01 | .brightness => 0x04 | .color => 0x05 | .segment => 0xA5) ∧
        (∀ (i : Nat) (hi : i < 17), f[i + 2]? = some (if i < n.toNat then p[i] else 0x00)) ∧
        f[19] = xorOfNineteen f

/-- R72: `EncodingError` is raised exactly when `plen > 17`, whatever the other operands and the state, and it is
ENCODE's only error: then the status code is 2 and `TXF` holds none, a frame left by an earlier ENCODE included; the
decoder's latches stay; the response carries the status alone (R103). -/
def Obligations.EncodingErrorExactlyWhenTooLong : Prop :=
  ∀ (h : Head) (c : Cmd) (n : PayloadLen) (p : Payload) (s : State),
    ∃ t, exec (.encode h c n p) s = .next t ∧ (t.enc.status = .encodingError ↔ 17 < n.toNat) ∧
      (t.enc.status = .ok ↔ n.toNat ≤ 17) ∧
      (17 < n.toNat → t.enc.status.code = 2 ∧ t.enc.txf = none ∧ t.dec = s.dec ∧
        t.encResponse = .encode .encodingError none)

/-- R73: frame byte `2 + i` is 0x00 for every `i` from `plen` up, whatever the operand lines carry there, and
requests that differ only there do the same in every state. -/
def Obligations.StaleBytesNeverReachTheFrame : Prop :=
  (∀ (h : Head) (c : Cmd) (n : PayloadLen) (p : Payload) (s : State), n.toNat ≤ 17 →
    ∃ t f, exec (.encode h c n p) s = .next t ∧ t.enc.txf = some f ∧
      ∀ i, n.toNat ≤ i → i < 17 → f[i + 2]? = some 0x00) ∧
  ∀ (h : Head) (c : Cmd) (n : PayloadLen) (p q : Payload) (s : State),
    (∀ (i : Nat) (hi : i < 17), i < n.toNat → p[i] = q[i]) → exec (.encode h c n p) s = exec (.encode h c n q) s

/-- R75 item 4, R37 (d): ENCODE is a function of its operands: from any two states it leaves the same encoder
latches and the same response, so no earlier operation, error or RESET matters to it (R121). -/
def Obligations.EncodeDependsOnItsOperandsOnly : Prop :=
  ∀ (h : Head) (c : Cmd) (n : PayloadLen) (p : Payload) (s s' : State),
    ∃ t t', exec (.encode h c n p) s = .next t ∧ exec (.encode h c n p) s' = .next t' ∧
      t.enc = t'.enc ∧ t.encResponse = t'.encResponse

/-- R75 item 5: requests that leave the same frame have the same head, the same command and the same padded
payload. -/
def Obligations.EncodeIsInjective : Prop :=
  ∀ (h h' : Head) (c c' : Cmd) (n n' : PayloadLen) (p p' : Payload) (s s' t t' : State) (f : Frame),
    exec (.encode h c n p) s = .next t → exec (.encode h' c' n' p') s' = .next t' →
    t.enc.txf = some f → t'.enc.txf = some f →
    h = h' ∧ c = c' ∧ ∀ (i : Nat) (hi : i < 17),
      (if i < n.toNat then p[i] else 0x00) = (if i < n'.toNat then p'[i] else 0x00)

/-! ### DECODE -/

/-- R81: DECODE of any twenty bytes completes. With a good checksum it ends OK with bytes 0 and 1 raw and classified
and the seventeen payload bytes in the latches and in the response; otherwise with `ChecksumError`, every `RX_*`
latch without value, and the status alone in the response. The encoder's latches stay. -/
def Obligations.DecodeDeliversOrRejects : Prop :=
  ∀ (f : Frame) (s : State), ∃ t, exec (.decode f.toList) s = .next t ∧ t.enc = s.enc ∧
    if f[19] = csum19 f.toList then
      ∃ p : Payload, t.dec.status = .ok ∧ t.dec.rxHead = some f[0] ∧ t.dec.rxHeadClass = some (headClass f[0]) ∧
        t.dec.rxCmd = some f[1] ∧ t.dec.rxCmdClass = some (cmdClass f[1]) ∧ t.dec.rxData = some p ∧
        (∀ (i : Nat) (hi : i < 17), f[i + 2]? = some p[i]) ∧
        t.decResponse = .decode .ok (some ⟨f[0], headClass f[0], f[1], cmdClass f[1], p⟩)
    else t.dec.status = .checksumError ∧ t.dec.holdsNone ∧ t.decResponse = .decode .checksumError none

/-- R82: `ChecksumError` is raised exactly when byte 19 differs from the XOR of bytes 0 to 18, and it is DECODE's only
error: then the status code is 2, every `RX_*` latch is without value, a packet left by an earlier DECODE included, the encoder's latches
stay and the response carries the status alone (R103); the next DECODE is served exactly as if the failed one had not happened. -/
def Obligations.ChecksumErrorExactlyOnMismatch : Prop :=
  ∀ (f : Frame) (s : State), ∃ t, exec (.decode f.toList) s = .next t ∧
    (t.dec.status = .checksumError ↔ f[19] ≠ xorOfNineteen f) ∧ (t.dec.status = .ok ↔ f[19] = xorOfNineteen f) ∧
    (f[19] ≠ xorOfNineteen f → t.dec.status.code = 2 ∧ t.dec.holdsNone ∧ t.enc = s.enc ∧
      t.decResponse = .decode .checksumError none ∧
      ∀ g : Frame, ∃ u u', exec (.decode g.toList) t = .next u ∧ exec (.decode g.toList) s = .next u' ∧
        u.dec = u'.dec ∧ u.decResponse = u'.decResponse)

/-- R88: a byte sequence whose length is not twenty is refused by DECODE and by the decoder of requests: no step,
no error, nothing padded or cut. -/
def Obligations.WrongLengthIsRefused : Prop :=
  ∀ (l : List Byte) (s : State), l.length ≠ 20 →
    decode (.decReq l) = .error .frameLength ∧ exec (.decode l) s = .refused (.rejected .frameLength)

/-- R46, R47: the classes of every byte, and the class of a selector's wire byte has the selector's own number. -/
def Obligations.ClassesOfBytes : Prop :=
  (∀ b : Byte, headClass b = if b = 0x33 then .command else if b = 0xAA then .request else .unknown) ∧
  (∀ b : Byte, cmdClass b = if b = 0x01 then .power else if b = 0x04 then .brightness else if b = 0x05 then .color
    else if b = 0xA5 then .segment else .unknown) ∧
  HeadClass.code .command = 0 ∧ HeadClass.code .request = 1 ∧ HeadClass.code .unknown = 2 ∧
  CmdClass.code .power = 0 ∧ CmdClass.code .brightness = 1 ∧ CmdClass.code .color = 2 ∧ CmdClass.code .segment = 3 ∧
  CmdClass.code .unknown = 4 ∧
  (∀ h : Head, (headClass (headByte h)).code.toNat = h.sel.toNat) ∧
  ∀ c : Cmd, (cmdClass (cmdByte c)).code.toNat = c.sel.toNat

/-- R83: for all 256 x 256 values of bytes 0 and 1 DECODE of a frame with a good checksum succeeds, delivers both
bytes raw, and sets the class code to 2 (head), 4 (command) exactly where the byte is no defined code point. -/
def Obligations.UnknownBytesAreDelivered : Prop :=
  ∀ (b c : Byte) (p : Payload) (s : State),
    ∃ t hc cc, exec (.decode ([b, c] ++ p.toList ++ [b ^^^ c ^^^ xorFold p.toList])) s = .next t ∧
      t.dec.status = .ok ∧ t.dec.rxHead = some b ∧ t.dec.rxCmd = some c ∧
      t.dec.rxHeadClass = some hc ∧ t.dec.rxCmdClass = some cc ∧
      (hc.code = 2 ↔ b ≠ 0x33 ∧ b ≠ 0xAA) ∧
      (cc.code = 4 ↔ c ≠ 0x01 ∧ c ≠ 0x04 ∧ c ≠ 0x05 ∧ c ≠ 0xA5)

/-- R87 item 1, R37 (d): DECODE is a function of its operand: from any two states it leaves the same decoder
latches and the same response (R121). -/
def Obligations.DecodeDependsOnItsOperandOnly : Prop :=
  ∀ (f : Frame) (s s' : State), ∃ t t', exec (.decode f.toList) s = .next t ∧ exec (.decode f.toList) s' = .next t' ∧
    t.dec = t'.dec ∧ t.decResponse = t'.decResponse

/-- R51 with R46, R47, R81 and R82: what each of the eight frame types does when it arrives, completing on every
payload and every checksum byte; reading the rows as received frames is log entry 6. -/
def Obligations.FrameTypesAreReceived : Prop :=
  receivesAs .commandPower 0x33 0x01 .command .power ∧
  receivesAs .commandBrightness 0x33 0x04 .command .brightness ∧
  receivesAs .commandColor 0x33 0x05 .command .color ∧
  receivesAs .commandSegment 0x33 0xA5 .command .segment ∧
  receivesAs .requestPower 0xAA 0x01 .request .power ∧
  receivesAs .requestBrightness 0xAA 0x04 .request .brightness ∧
  receivesAs .requestColor 0xAA 0x05 .request .color ∧
  receivesAs .requestSegment 0xAA 0xA5 .request .segment

/-- R85, the round-trip law: the frame that ENCODE leaves, presented to DECODE in any state, gives OK, the head and
command bytes, class codes equal to the selectors, and the payload followed by zeros. -/
def Obligations.RoundTripThroughTheCodec : Prop :=
  ∀ (h : Head) (c : Cmd) (n : PayloadLen) (p : Payload) (s s' : State), n.toNat ≤ 17 →
    ∃ t f t' hc cc q, exec (.encode h c n p) s = .next t ∧ t.enc.txf = some f ∧
      exec (.decode f.toList) s' = .next t' ∧ t'.dec.status = .ok ∧
      t'.dec.rxHead = some (headByte h) ∧ t'.dec.rxHeadClass = some hc ∧ hc.code.toNat = h.sel.toNat ∧
      t'.dec.rxCmd = some (cmdByte c) ∧ t'.dec.rxCmdClass = some cc ∧ cc.code.toNat = c.sel.toNat ∧
      t'.dec.rxData = some q ∧ ∀ (i : Nat) (hi : i < 17), q[i] = if i < n.toNat then p[i] else 0x00

/-- R85, the other direction: a packet that DECODE delivers with both classes known, encoded again with all
seventeen payload bytes and the selectors of its classes, gives the received frame back, all twenty bytes. -/
def Obligations.ReEncodingRestoresTheFrame : Prop :=
  ∀ (f : Frame) (h : Head) (c : Cmd) (p : Payload) (hc : HeadClass) (cc : CmdClass) (s s' t : State),
    exec (.decode f.toList) s = .next t → t.dec.status = .ok →
    t.dec.rxHeadClass = some hc → hc.code.toNat = h.sel.toNat →
    t.dec.rxCmdClass = some cc → cc.code.toNat = c.sel.toNat → t.dec.rxData = some p →
    ∃ u, exec (.encode h c 17 p) s' = .next u ∧ u.enc.txf = some f

/-! ### Reads -/

/-- R90: READ_ENC_STATUS completes in every state, returns the 2-bit code, writes no latch, and may be repeated: at
once, and after any operations that complete with no ENCODE and no RESET among them, with the same result. -/
def Obligations.ReadEncStatusReturnsTheCode : Prop :=
  ∀ s : State, ∃ t, exec .readEncStatus s = .next t ∧ t.enc = s.enc ∧ t.dec = s.dec ∧
    t.encResponse = .status (match s.enc.status with | .none => 0 | .ok => 1 | .encodingError => 2) ∧
    exec .readEncStatus t = .next t ∧
    ∀ (js : List Instr) (u : State), (∀ j ∈ js, j ≠ .reset ∧ ∀ h c n p, j ≠ .encode h c n p) → issue js s = .next u →
      ∃ v, exec .readEncStatus u = .next v ∧ v.encResponse = t.encResponse

/-- R91: READ_TXF with status OK and an index 0 to 19 completes, returns that byte of the frame, writes no latch and
may be repeated; with another status, or an index from 20 up, it is refused. -/
def Obligations.ReadTxfReturnsTheByte : Prop :=
  (∀ (s : State) (f : Frame) (i : Nat) (hi : i < 20), s.enc.status = .ok → s.enc.txf = some f →
    ∃ t, exec (.readTxf i) s = .next t ∧ t.enc = s.enc ∧ t.dec = s.dec ∧ t.encResponse = .txf f[i] ∧
      exec (.readTxf i) t = .next t) ∧
  (∀ (s : State) (i : Nat), s.enc.status ≠ .ok → exec (.readTxf i) s = .refused .txfNone) ∧
  ∀ (s : State) (i : Nat), 20 ≤ i →
    decode (.txfReq i) = .error .txfIndex ∧ ∃ r, exec (.readTxf i) s = .refused r

/-- R92: READ_DEC_STATUS completes in every state, returns the 2-bit code, writes no latch, and may be repeated. -/
def Obligations.ReadDecStatusReturnsTheCode : Prop :=
  ∀ s : State, ∃ t, exec .readDecStatus s = .next t ∧ t.enc = s.enc ∧ t.dec = s.dec ∧
    t.decResponse = .status (match s.dec.status with | .none => 0 | .ok => 1 | .checksumError => 2) ∧
    exec .readDecStatus t = .next t

/-- R93: READ_RXP with status OK completes and returns the named latch at its width, writing no latch, and may be
repeated; with another status, or a `DATA` index from 17 up, it is refused. -/
def Obligations.ReadRxpReturnsTheLatch : Prop :=
  (∀ (s : State) (b c : Byte) (hc : HeadClass) (cc : CmdClass) (p : Payload), s.dec.status = .ok →
    s.dec.rxHead = some b → s.dec.rxHeadClass = some hc → s.dec.rxCmd = some c → s.dec.rxCmdClass = some cc →
    s.dec.rxData = some p →
    ∀ (field : RxField) (v : RxValue),
      (field = .head ∧ v = .head b ∨
       field = .headClass ∧ v = .headClass (match hc with | .command => 0 | .request => 1 | .unknown => 2) ∨
       field = .cmd ∧ v = .cmd c ∨
       field = .cmdClass ∧ v = .cmdClass
          (match cc with | .power => 0 | .brightness => 1 | .color => 2 | .segment => 3 | .unknown => 4) ∨
       ∃ (i : Nat) (hi : i < 17), field = .data i ∧ v = .data p[i]) →
      ∃ t, exec (.readRxp field) s = .next t ∧ t.enc = s.enc ∧ t.dec = s.dec ∧ t.decResponse = .rxp v ∧
        exec (.readRxp field) t = .next t) ∧
  (∀ (s : State) (field : RxField), s.dec.status ≠ .ok → exec (.readRxp field) s = .refused .rxNone) ∧
  ∀ (s : State) (i : Nat), 17 ≤ i →
    decode (.rxpReq (.data i)) = .error .rxDataIndex ∧ ∃ r, exec (.readRxp (.data i)) s = .refused r

/-- R33, R90 to R93: a read that completes writes no latch of either unit. -/
def Obligations.ReadsWriteNoLatch : Prop :=
  ∀ (i : Instr) (s t : State),
    (i = .readEncStatus ∨ (∃ k, i = .readTxf k) ∨ i = .readDecStatus ∨ ∃ field, i = .readRxp field) →
    exec i s = .next t → t.enc = s.enc ∧ t.dec = s.dec

/-- R94, R91: the response of an ENCODE that ended OK and the reads of `TXF` after it give the same bytes. -/
def Obligations.ReadsAgreeWithTheEncodeResponse : Prop :=
  ∀ (h : Head) (c : Cmd) (n : PayloadLen) (p : Payload) (s t : State) (f : Frame),
    exec (.encode h c n p) s = .next t → t.encResponse = .encode .ok (some f) →
    ∀ (i : Nat) (hi : i < 20), ∃ u, exec (.readTxf i) t = .next u ∧ u.encResponse = .txf f[i]

/-- R94, R93: the response of a DECODE that ended OK and the reads of the `RX_*` latches after it agree. -/
def Obligations.ReadsAgreeWithTheDecodeResponse : Prop :=
  ∀ (l : List Byte) (s t : State) (pk : Packet),
    exec (.decode l) s = .next t → t.decResponse = .decode .ok (some pk) →
    (∃ u, exec (.readRxp .head) t = .next u ∧ u.decResponse = .rxp (.head pk.head)) ∧
    (∃ u, exec (.readRxp .headClass) t = .next u ∧ u.decResponse = .rxp (.headClass pk.headClass.code)) ∧
    (∃ u, exec (.readRxp .cmd) t = .next u ∧ u.decResponse = .rxp (.cmd pk.cmd)) ∧
    (∃ u, exec (.readRxp .cmdClass) t = .next u ∧ u.decResponse = .rxp (.cmdClass pk.cmdClass.code)) ∧
    ∀ (i : Nat) (hi : i < 17), ∃ u, exec (.readRxp (.data i)) t = .next u ∧ u.decResponse = .rxp (.data pk.data[i])

/-! ### Reset and errors -/

/-- R25: after power-on, and after RESET from any state, both statuses are NONE (code 0) and every data latch is
without value. -/
def Obligations.PowerOnState : Prop :=
  (State.reset.enc.status = .none ∧ State.reset.enc.status.code = 0 ∧ State.reset.enc.txf = none ∧
    State.reset.dec.status = .none ∧ State.reset.dec.status.code = 0 ∧ State.reset.dec.holdsNone) ∧
  ∀ s : State, ∃ t, exec .reset s = .next t ∧ t.enc.status = .none ∧ t.enc.status.code = 0 ∧ t.enc.txf = none ∧
    t.dec.status = .none ∧ t.dec.status.code = 0 ∧ t.dec.holdsNone

/-- R120: RESET completes in every state, both statuses become NONE and every data latch loses its value, which is
the power-on state of the latches, nothing is returned, and a second RESET changes nothing more. That nothing is
returned shows as both outputs being `nothing` after RESET, and that a second one keeps them so, by the model's choice
(log entry 2). -/
def Obligations.ResetRestoresPowerOn : Prop :=
  ∀ s : State, ∃ t, exec .reset s = .next t ∧ t.enc.status = .none ∧ t.enc.txf = none ∧ t.dec.status = .none ∧
    t.dec.holdsNone ∧ t.enc = State.reset.enc ∧ t.dec = State.reset.dec ∧
    t.encResponse = .nothing ∧ t.decResponse = .nothing ∧ exec .reset t = .next t

/-- R103: raising an error sets the unit's status to the error's code and takes the value from the unit's data
latches; no latch of the other unit changes; the response carries the status and no data. The other unit's response
output and the waiting requests, the model's own (log entries 2 and 1), stay too. -/
def Obligations.RaiseRecordsTheErrorOnly : Prop :=
  ∀ s : State,
    ((s.raise .encodingError).enc.status.code = 2 ∧ (s.raise .encodingError).enc.txf = none ∧
      (s.raise .encodingError).encResponse = .encode .encodingError none ∧ (s.raise .encodingError).dec = s.dec ∧
      (s.raise .encodingError).decResponse = s.decResponse ∧ (s.raise .encodingError).requests = s.requests) ∧
    ((s.raise .checksumError).dec.status.code = 2 ∧ (s.raise .checksumError).dec.holdsNone ∧
      (s.raise .checksumError).decResponse = .decode .checksumError none ∧ (s.raise .checksumError).enc = s.enc ∧
      (s.raise .checksumError).encResponse = s.encResponse ∧ (s.raise .checksumError).requests = s.requests)

/-! ### The whole block -/

/-- The state after power-on meets the invariant of R24. -/
def Obligations.PowerOnMeetsTheInvariant : Prop := State.reset.Inv

/-- R24: every step, from any state that meets the invariant, keeps it: each unit's data latches hold values
exactly when its status is OK, a held frame has defined head and command bytes and its checksum, and the classes are
those of the raw bytes. A step serves the first waiting request or waits (log entries 1 and 3). -/
def Obligations.StepKeepsTheInvariant : Prop :=
  ∀ s t : State, s.Inv → step s = .next t → t.Inv

/-- R13, R15, R20: the encoder's latches are written by ENCODE and RESET only, the decoder's by DECODE (of any frame
type) and RESET only: an operation that changes them is one of these (the frame types as DECODE: log entry 6). -/
def Obligations.OnlyTheirOperationsWriteTheLatches : Prop :=
  ∀ (i : Instr) (s t : State), exec i s = .next t →
    (t.enc ≠ s.enc → i = .reset ∨ ∃ h c n p, i = .encode h c n p) ∧
    (t.dec ≠ s.dec → i = .reset ∨ (∃ l, i = .decode l) ∨
      ∃ p k, i = .commandPower p k ∨ i = .commandBrightness p k ∨ i = .commandColor p k ∨ i = .commandSegment p k ∨
        i = .requestPower p k ∨ i = .requestBrightness p k ∨ i = .requestColor p k ∨ i = .requestSegment p k)

/-- R10, R124: an operation of the encoder unit (ENCODE, READ_ENC_STATUS, READ_TXF) that completes leaves the decoder
unit's latches and response as they were; the response's staying is the model's own choice (log entry 2). -/
def Obligations.EncoderOperationsLeaveTheDecoder : Prop :=
  ∀ (i : Instr) (s t : State),
    ((∃ h c n p, i = .encode h c n p) ∨ i = .readEncStatus ∨ ∃ k, i = .readTxf k) → exec i s = .next t →
    t.dec = s.dec ∧ t.decResponse = s.decResponse

/-- R10, R124: an operation of the decoder unit (DECODE of any frame type, READ_DEC_STATUS, READ_RXP) that completes
leaves the encoder unit's latches and response as they were; the response's staying is the model's own choice (log
entry 2). -/
def Obligations.DecoderOperationsLeaveTheEncoder : Prop :=
  ∀ (i : Instr) (s t : State),
    ((∃ l, i = .decode l) ∨ i = .readDecStatus ∨ (∃ field, i = .readRxp field) ∨
      ∃ p k, i = .commandPower p k ∨ i = .commandBrightness p k ∨ i = .commandColor p k ∨ i = .commandSegment p k ∨
        i = .requestPower p k ∨ i = .requestBrightness p k ∨ i = .requestColor p k ∨ i = .requestSegment p k) →
    exec i s = .next t → t.enc = s.enc ∧ t.encResponse = s.encResponse

/-- No operation touches the requests the host has still to be served (R96; the field is the model's own, log
entry 1), so no operation chooses the next one (R95). -/
def Obligations.OperationsLeaveTheRequests : Prop :=
  ∀ (i : Instr) (s t : State), exec i s = .next t → t.requests = s.requests

/-- R37 (b): an operation of the encoder unit and an operation of the decoder unit commute: whenever both orders
complete, the final state, with both responses, is the same; and one order completes when the other does. That each
unit has a response output of its own, which stays, is the model's choice (log entry 2). -/
def Obligations.UnitsCommute : Prop :=
  ∀ (i j : Instr) (s t u : State), i.unit = .encoder → j.unit = .decoder →
    ((exec i s = .next t ∧ exec j t = .next u → ∃ t', exec j s = .next t' ∧ exec i t' = .next u) ∧
     (exec j s = .next t ∧ exec i t = .next u → ∃ t', exec i s = .next t' ∧ exec j t' = .next u))

/-- R37, R124: what the encoder unit holds and last returned after a completed run is what it holds and returned
after the run of the encoder's requests and the RESETs alone: the decoder's requests cannot be seen there. The list of
requests and the output that keeps the last response are the model's own (log entries 1 and 2). -/
def Obligations.DecoderRequestsAreInvisibleToTheEncoder : Prop :=
  ∀ s t : State, runRequests s = .next t →
    ∃ t', runRequests { s with requests := s.requests.filter actsOnEncoder } = .next t' ∧
      t'.enc = t.enc ∧ t'.encResponse = t.encResponse

/-- R37, R124: the same for the decoder unit: the encoder's requests cannot be seen there. The list of requests and
the output that keeps the last response are the model's own (log entries 1 and 2). -/
def Obligations.EncoderRequestsAreInvisibleToTheDecoder : Prop :=
  ∀ s t : State, runRequests s = .next t →
    ∃ t', runRequests { s with requests := s.requests.filter actsOnDecoder } = .next t' ∧
      t'.dec = t.dec ∧ t'.decResponse = t.decResponse

/-- R34, R96, R126: in a state that meets the invariant an operation completes exactly when the host meets its duty,
operands in range and a data latch read only with status OK; otherwise it is refused (log entry 5; a term with an
operand out of range: log entry 11). -/
def Obligations.CompletesExactlyWhenTheDutyIsMet : Prop :=
  ∀ (i : Instr) (s : State), s.Inv →
    ((∃ t, exec i s = .next t) ↔ dutyMet i s = true) ∧ (dutyMet i s = false → ∃ r, exec i s = .refused r)

/-- R97: a run takes one step a request: after `n` steps that complete, exactly the first `n` requests are served (the
list of requests is the model's own, log entry 1). -/
def Obligations.EachStepServesOneRequest : Prop :=
  ∀ (s t : State) (n : Nat), n ≤ s.requests.length → runSteps n s = .next t →
    t.requests = s.requests.drop n

/-- R97, R34: a run whose requests are all operations of the block, READ_TXF and READ_RXP apart (whose duty depends on
the state), ends with every request served, from any state; the list of requests is the model's own (log entry 1). -/
def Obligations.RunsWithoutDataReadsEnd : Prop :=
  ∀ s : State, (∀ r ∈ s.requests, ∃ i, decode r = .ok i ∧ neverRefused i = true) →
    ∃ t, runRequests s = .next t ∧ t.requests = []

/-- R97, R34, R126: from a state that meets the invariant, a run in which each request is an operation of the block
whose duty is met in the state it is served in, READ_TXF and READ_RXP included, ends with every request served; the
list of requests is the model's own (log entry 1). -/
def Obligations.RunsMeetingTheirDutiesEnd : Prop :=
  ∀ s : State, s.Inv → dutiesMet s.requests s = true → ∃ t, runRequests s = .next t ∧ t.requests = []

/-- Which operation a table word is read as (log entry 7, the model's choice). A word of 160 bits is the frame packed
in it, for each of the eight frame types its row's operation; a word of another size is a port number with zero
operands, and a number past the seventh port is no operation. -/
def Obligations.TableWordsAreReadAsLogged : Prop :=
  (∀ f : Frame, tableRequest 160 (packFrame f).toNat = .decReq f.toList) ∧
  (∀ (p : Payload) (k : Byte),
    decodeTableWord 160 (packFrame (frameOf 0x33 0x01 p k)).toNat = some (.commandPower p k) ∧
    decodeTableWord 160 (packFrame (frameOf 0x33 0x04 p k)).toNat = some (.commandBrightness p k) ∧
    decodeTableWord 160 (packFrame (frameOf 0x33 0x05 p k)).toNat = some (.commandColor p k) ∧
    decodeTableWord 160 (packFrame (frameOf 0x33 0xA5 p k)).toNat = some (.commandSegment p k) ∧
    decodeTableWord 160 (packFrame (frameOf 0xAA 0x01 p k)).toNat = some (.requestPower p k) ∧
    decodeTableWord 160 (packFrame (frameOf 0xAA 0x04 p k)).toNat = some (.requestBrightness p k) ∧
    decodeTableWord 160 (packFrame (frameOf 0xAA 0x05 p k)).toNat = some (.requestColor p k) ∧
    decodeTableWord 160 (packFrame (frameOf 0xAA 0xA5 p k)).toNat = some (.requestSegment p k)) ∧
  ∀ nbits : Nat, nbits ≠ 160 →
    decodeTableWord nbits 0 = some (.encode .command .power 0 (Vector.replicate 17 0x00)) ∧
    decodeTableWord nbits 1 = some (.decode (List.replicate 20 0x00)) ∧
    decodeTableWord nbits 2 = some .readEncStatus ∧ decodeTableWord nbits 3 = some (.readTxf 0) ∧
    decodeTableWord nbits 4 = some .readDecStatus ∧ decodeTableWord nbits 5 = some (.readRxp .head) ∧
    decodeTableWord nbits 6 = some .reset ∧
    ∀ w : Nat, 7 ≤ w → tableRequest nbits w = .unlisted ∧ decodeTableWord nbits w = none
end

