-- ==== Sys2Proof/Laws/Checksum.lean ====
section
/-! SUPPORT. The checksum functions in the form proofs use: the fold by its first byte, validity as an equation. -/

namespace Sys2Proof.Machine

/-- The fold of nothing is the seed (R60, V1). -/
@[simp] theorem xorFold_nil : xorFold [] = 0 := rfl

/-- A fold from any start value is that value XORed with the fold from the seed. -/
theorem foldl_xor_start (s : List Byte) (a : Byte) : s.foldl (fun acc b => acc ^^^ b) a = a ^^^ xorFold s := by
  induction s generalizing a with
  | nil => simp [xorFold, Config.csumSeed]
  | cons b s ih =>
    have unfolded : xorFold (b :: s) = b ^^^ xorFold s := by
      show s.foldl (fun acc b => acc ^^^ b) (Config.csumSeed ^^^ b) = _
      rw [ih]
      simp [Config.csumSeed]
    rw [unfolded, List.foldl_cons, ih, BitVec.xor_assoc]

/-- The fold by its first byte. -/
@[simp] theorem xorFold_cons (b : Byte) (s : List Byte) : xorFold (b :: s) = b ^^^ xorFold s := by
  show s.foldl (fun acc b => acc ^^^ b) (Config.csumSeed ^^^ b) = _
  rw [foldl_xor_start]
  simp [Config.csumSeed]

/-- Validity is byte 19 being the checksum of the first nineteen bytes (R62). -/
theorem valid_iff (f : Frame) : valid f = true ↔ f[19] = csum19 f.toList := by
  simp [valid]

/-- The checksum reads the first nineteen bytes only (R61). -/
theorem csum19_append {front : List Byte} (rest : List Byte) (h : front.length = 19) :
    csum19 (front ++ rest) = xorFold front := by
  simp [csum19, ← h]

end Sys2Proof.Machine
end

