-- ==== Sys2Proof/Laws/State.lean ====
section
/-! SUPPORT. One lemma per field of `State` per update, and the values of the latches each named unit state holds. -/

namespace Sys2Proof.Machine

variable (s : State) (e : EncUnit) (d : DecUnit) (re : EncResponse) (rd : DecResponse) (rs : List Request)

@[simp] theorem State.setEnc_enc : (s.setEnc e).enc = e := rfl
@[simp] theorem State.setEnc_dec : (s.setEnc e).dec = s.dec := rfl
@[simp] theorem State.setEnc_encResponse : (s.setEnc e).encResponse = s.encResponse := rfl
@[simp] theorem State.setEnc_decResponse : (s.setEnc e).decResponse = s.decResponse := rfl
@[simp] theorem State.setEnc_requests : (s.setEnc e).requests = s.requests := rfl

@[simp] theorem State.setDec_enc : (s.setDec d).enc = s.enc := rfl
@[simp] theorem State.setDec_dec : (s.setDec d).dec = d := rfl
@[simp] theorem State.setDec_encResponse : (s.setDec d).encResponse = s.encResponse := rfl
@[simp] theorem State.setDec_decResponse : (s.setDec d).decResponse = s.decResponse := rfl
@[simp] theorem State.setDec_requests : (s.setDec d).requests = s.requests := rfl

@[simp] theorem State.setEncResponse_enc : (s.setEncResponse re).enc = s.enc := rfl
@[simp] theorem State.setEncResponse_dec : (s.setEncResponse re).dec = s.dec := rfl
@[simp] theorem State.setEncResponse_encResponse : (s.setEncResponse re).encResponse = re := rfl
@[simp] theorem State.setEncResponse_decResponse : (s.setEncResponse re).decResponse = s.decResponse := rfl
@[simp] theorem State.setEncResponse_requests : (s.setEncResponse re).requests = s.requests := rfl

@[simp] theorem State.setDecResponse_enc : (s.setDecResponse rd).enc = s.enc := rfl
@[simp] theorem State.setDecResponse_dec : (s.setDecResponse rd).dec = s.dec := rfl
@[simp] theorem State.setDecResponse_encResponse : (s.setDecResponse rd).encResponse = s.encResponse := rfl
@[simp] theorem State.setDecResponse_decResponse : (s.setDecResponse rd).decResponse = rd := rfl
@[simp] theorem State.setDecResponse_requests : (s.setDecResponse rd).requests = s.requests := rfl

@[simp] theorem State.setRequests_enc : (s.setRequests rs).enc = s.enc := rfl
@[simp] theorem State.setRequests_dec : (s.setRequests rs).dec = s.dec := rfl
@[simp] theorem State.setRequests_encResponse : (s.setRequests rs).encResponse = s.encResponse := rfl
@[simp] theorem State.setRequests_decResponse : (s.setRequests rs).decResponse = s.decResponse := rfl
@[simp] theorem State.setRequests_requests : (s.setRequests rs).requests = rs := rfl

@[simp] theorem State.setRequests_self : s.setRequests s.requests = s := rfl
@[simp] theorem State.setRequests_setRequests (rs' : List Request) :
    (s.setRequests rs').setRequests rs = s.setRequests rs := rfl

/-- The fields settle the state: two states with the same five fields are one state. -/
theorem State.eq_of_fields {s t : State} (enc : s.enc = t.enc) (dec : s.dec = t.dec)
    (encResponse : s.encResponse = t.encResponse) (decResponse : s.decResponse = t.decResponse)
    (requests : s.requests = t.requests) : s = t := by
  cases s; cases t; simp_all

variable (f : Frame) (p : Packet)

@[simp] theorem EncUnit.holding_status : (EncUnit.holding f).status = .ok := rfl
@[simp] theorem EncUnit.holding_txf : (EncUnit.holding f).txf = some f := rfl
@[simp] theorem EncUnit.failed_status : EncUnit.failed.status = .encodingError := rfl
@[simp] theorem EncUnit.failed_txf : EncUnit.failed.txf = none := rfl
@[simp] theorem EncUnit.reset_status : EncUnit.reset.status = .none := rfl
@[simp] theorem EncUnit.reset_txf : EncUnit.reset.txf = none := rfl

@[simp] theorem DecUnit.holding_status : (DecUnit.holding p).status = .ok := rfl
@[simp] theorem DecUnit.holding_rxHead : (DecUnit.holding p).rxHead = some p.head := rfl
@[simp] theorem DecUnit.holding_rxHeadClass : (DecUnit.holding p).rxHeadClass = some p.headClass := rfl
@[simp] theorem DecUnit.holding_rxCmd : (DecUnit.holding p).rxCmd = some p.cmd := rfl
@[simp] theorem DecUnit.holding_rxCmdClass : (DecUnit.holding p).rxCmdClass = some p.cmdClass := rfl
@[simp] theorem DecUnit.holding_rxData : (DecUnit.holding p).rxData = some p.data := rfl
@[simp] theorem DecUnit.failed_status : DecUnit.failed.status = .checksumError := rfl
@[simp] theorem DecUnit.reset_status : DecUnit.reset.status = .none := rfl

/-- The response of an ENCODE that ended OK is its frame (R94). -/
@[simp] theorem EncUnit.holding_response : (EncUnit.holding f).response = .encode .ok (some f) := rfl

/-- The response of an ENCODE that failed carries the status and no data (R94, R103). -/
@[simp] theorem EncUnit.failed_response : EncUnit.failed.response = .encode .encodingError none := rfl

/-- The response of a DECODE that ended OK is its packet (R94). -/
@[simp] theorem DecUnit.holding_response : (DecUnit.holding p).response = .decode .ok (some p) := rfl

/-- The response of a DECODE that failed carries the status and no data (R94, R103). -/
@[simp] theorem DecUnit.failed_response : DecUnit.failed.response = .decode .checksumError none := rfl

end Sys2Proof.Machine
end

