-- ==== Sys2Proof/Laws/Ops.lean ====
section
/-! SUPPORT. For each shared operation, once, everything it can do. The provers cite these and need not unfold the
operations. -/

namespace Sys2Proof.Machine

/-! ### Finishing an operation: one unit's latches and response, nothing else -/

variable (s : State) (e : EncUnit) (d : DecUnit)

@[simp] theorem State.finishEncode_enc : (s.finishEncode e).enc = e := rfl
@[simp] theorem State.finishEncode_dec : (s.finishEncode e).dec = s.dec := rfl
@[simp] theorem State.finishEncode_encResponse : (s.finishEncode e).encResponse = e.response := rfl
@[simp] theorem State.finishEncode_decResponse : (s.finishEncode e).decResponse = s.decResponse := rfl
@[simp] theorem State.finishEncode_requests : (s.finishEncode e).requests = s.requests := rfl

@[simp] theorem State.finishDecode_enc : (s.finishDecode d).enc = s.enc := rfl
@[simp] theorem State.finishDecode_dec : (s.finishDecode d).dec = d := rfl
@[simp] theorem State.finishDecode_encResponse : (s.finishDecode d).encResponse = s.encResponse := rfl
@[simp] theorem State.finishDecode_decResponse : (s.finishDecode d).decResponse = d.response := rfl
@[simp] theorem State.finishDecode_requests : (s.finishDecode d).requests = s.requests := rfl

/-- Raising `EncodingError` is finishing the encoder's operation with its failed latches. -/
@[simp] theorem State.raise_encodingError : s.raise .encodingError = s.finishEncode EncUnit.failed := rfl

/-- Raising `ChecksumError` is finishing the decoder's operation with its failed latches. -/
@[simp] theorem State.raise_checksumError : s.raise .checksumError = s.finishDecode DecUnit.failed := rfl

/-! ### DECODE's shared body -/

/-- The decoder latches after DECODE of `f`, from any state (R81, R87). -/
def receivedUnit (f : Frame) : DecUnit :=
  if valid f then DecUnit.holding (packetOf f) else DecUnit.failed

/-- DECODE of a frame finishes the decoder's operation with latches that depend on the frame alone. -/
theorem State.receive_eq (f : Frame) : s.receive f = s.finishDecode (receivedUnit f) := by
  unfold State.receive receivedUnit
  split <;> rfl

theorem receivedUnit_valid {f : Frame} (h : valid f = true) : receivedUnit f = DecUnit.holding (packetOf f) :=
  if_pos h

theorem receivedUnit_invalid {f : Frame} (h : valid f = false) : receivedUnit f = DecUnit.failed := by
  simp [receivedUnit, h]

/-! ### ENCODE's shared body -/

/-- The encoder latches after ENCODE of these operands, from any state (R71, R75 item 4). -/
def encodedUnit (h : Head) (c : Cmd) (n : PayloadLen) (p : Payload) : EncUnit :=
  if payloadTooLong n then EncUnit.failed else EncUnit.holding (buildFrame h c n p)

/-- ENCODE finishes the encoder's operation with latches that depend on its operands alone. -/
theorem execEncode_eq (h : Head) (c : Cmd) (n : PayloadLen) (p : Payload) :
    execEncode h c n p s = .next (s.finishEncode (encodedUnit h c n p)) := by
  unfold execEncode encodedUnit
  split <;> rfl

theorem payloadTooLong_iff (n : PayloadLen) : payloadTooLong n = true ↔ 17 < n.toNat := by
  simp [payloadTooLong]

/-- Up to seventeen bytes the encoder unit ends holding the frame built from the operands (R71). -/
theorem encodedUnit_ok (h : Head) (c : Cmd) (p : Payload) {n : PayloadLen} (fits : n.toNat ≤ 17) :
    encodedUnit h c n p = EncUnit.holding (buildFrame h c n p) :=
  if_neg (by rw [payloadTooLong_iff]; omega)

/-- Above seventeen bytes it ends failed (R72). -/
theorem encodedUnit_failed (h : Head) (c : Cmd) (p : Payload) {n : PayloadLen} (long : 17 < n.toNat) :
    encodedUnit h c n p = EncUnit.failed :=
  if_pos ((payloadTooLong_iff n).mpr long)

/-! ### Reads -/

/-- When a read of `TXF` gives a byte: status OK, a frame held, the index in range (R91). -/
theorem EncUnit.readTxf_ok_iff (i : Nat) (b : Byte) :
    e.readTxf i = .ok b ↔ e.status = .ok ∧ ∃ f, e.txf = some f ∧ f[i]? = some b := by
  unfold EncUnit.readTxf
  split
  · next hs =>
    split
    · next hi => cases e.txf <;> simp [latched, Except.map, hs, hi]
    · next hi =>
      have none_there (f : Frame) : f[i]? = none := Vector.getElem?_eq_none (Nat.le_of_not_lt hi)
      simp [none_there]
  · next hs => simp [hs]

/-- A read of a latch gives a value exactly when the latch holds it. -/
theorem latched_ok_iff {α : Type} (latch : Option α) (why : Refusal) (v : α) :
    latched latch why = .ok v ↔ latch = some v := by
  cases latch <;> simp [latched]

/-- A read of a decoder latch that gives a value: the status is OK and the latch read gives it (R93). -/
theorem DecUnit.readRxp_ok_iff (field : RxField) (v : RxValue) :
    d.readRxp field = .ok v ↔ d.status = .ok ∧ d.rxLatch field = .ok v := by
  by_cases hs : d.status = .ok <;> simp [DecUnit.readRxp, hs]

/-! ### Byte sequences as frames -/

/-- The bytes of a frame are that frame (R50). -/
@[simp] theorem frameOfBytes?_toList (f : Frame) : frameOfBytes? f.toList = some f := by
  simp [frameOfBytes?, Vector.toList]

/-- A byte sequence is a frame exactly when it is that frame's twenty bytes (R50, R88). -/
theorem frameOfBytes?_eq_some_iff (l : List Byte) (f : Frame) : frameOfBytes? l = some f ↔ l = f.toList := by
  constructor
  · intro h
    unfold frameOfBytes? at h
    split at h
    · injection h with h
      subst h
      simp
    · exact absurd h (by simp)
  · rintro rfl
    exact frameOfBytes?_toList f

/-- What DECODE of a frame's bytes does: the shared body, on that frame. -/
theorem execDecode_toList (f : Frame) : execDecode f.toList s = .next (s.receive f) := by
  simp [execDecode]

/-- A byte sequence that is not twenty bytes is no frame (R88). -/
theorem frameOfBytes?_eq_none_iff (l : List Byte) : frameOfBytes? l = none ↔ l.length ≠ 20 := by
  simp [frameOfBytes?]

/-- No frame matches two rows of the frame-type table (R51). -/
theorem frameRows_disjoint : frameRows.Pairwise fun r q => (r.head, r.cmd) ≠ (q.head, q.cmd) := by
  simp [frameRows, Config.headCommand, Config.headRequest, Config.cmdPower, Config.cmdBrightness, Config.cmdColor,
    Config.cmdSegment]

end Sys2Proof.Machine
end

