-- ==== Sys2Proof/Laws/Exec.lean ====
section
/-! SUPPORT. What `exec` answers for each operation, in terms of the shared operations. -/

namespace Sys2Proof.Machine

/-! ### What each operation answers, its own latches being a function of its operands -/

section
variable (s : State) (p : Payload) (k : Byte)

theorem exec_encode (h : Head) (c : Cmd) (n : PayloadLen) :
    exec (.encode h c n p) s = .next (s.finishEncode (encodedUnit h c n p)) := execEncode_eq s h c n p

theorem exec_decode_frame (f : Frame) : exec (.decode f.toList) s = .next (s.finishDecode (receivedUnit f)) := by
  rw [← State.receive_eq]
  exact execDecode_toList s f

theorem exec_commandPower : exec (.commandPower p k) s =
    .next (s.finishDecode (receivedUnit (frameOf Config.headCommand Config.cmdPower p k))) := by
  rw [← State.receive_eq]
  rfl
theorem exec_commandBrightness : exec (.commandBrightness p k) s =
    .next (s.finishDecode (receivedUnit (frameOf Config.headCommand Config.cmdBrightness p k))) := by
  rw [← State.receive_eq]
  rfl
theorem exec_commandColor : exec (.commandColor p k) s =
    .next (s.finishDecode (receivedUnit (frameOf Config.headCommand Config.cmdColor p k))) := by
  rw [← State.receive_eq]
  rfl
theorem exec_commandSegment : exec (.commandSegment p k) s =
    .next (s.finishDecode (receivedUnit (frameOf Config.headCommand Config.cmdSegment p k))) := by
  rw [← State.receive_eq]
  rfl
theorem exec_requestPower : exec (.requestPower p k) s =
    .next (s.finishDecode (receivedUnit (frameOf Config.headRequest Config.cmdPower p k))) := by
  rw [← State.receive_eq]
  rfl
theorem exec_requestBrightness : exec (.requestBrightness p k) s =
    .next (s.finishDecode (receivedUnit (frameOf Config.headRequest Config.cmdBrightness p k))) := by
  rw [← State.receive_eq]
  rfl
theorem exec_requestColor : exec (.requestColor p k) s =
    .next (s.finishDecode (receivedUnit (frameOf Config.headRequest Config.cmdColor p k))) := by
  rw [← State.receive_eq]
  rfl
theorem exec_requestSegment : exec (.requestSegment p k) s =
    .next (s.finishDecode (receivedUnit (frameOf Config.headRequest Config.cmdSegment p k))) := by
  rw [← State.receive_eq]
  rfl

theorem exec_readEncStatus : exec .readEncStatus s = .next (s.setEncResponse (.status s.enc.status.code)) := rfl

theorem exec_readDecStatus : exec .readDecStatus s = .next (s.setDecResponse (.status s.dec.status.code)) := rfl

theorem exec_readTxf_next_iff (i : Nat) (t : State) :
    exec (.readTxf i) s = .next t ↔ ∃ b, s.enc.readTxf i = .ok b ∧ t = s.setEncResponse (.txf b) := by
  show execReadTxf i s = .next t ↔ _
  unfold execReadTxf
  cases s.enc.readTxf i <;> simp [eq_comm]

theorem exec_readRxp_next_iff (field : RxField) (t : State) :
    exec (.readRxp field) s = .next t ↔ ∃ v, s.dec.readRxp field = .ok v ∧ t = s.setDecResponse (.rxp v) := by
  show execReadRxp field s = .next t ↔ _
  unfold execReadRxp
  cases s.dec.readRxp field <;> simp [eq_comm]

theorem exec_reset : exec .reset s = .next (State.reset.setRequests s.requests) := rfl

end

end Sys2Proof.Machine
end

