-- ==== Sys2Proof/Laws/Frame.lean ====
section
/-! SUPPORT. The bytes of a frame made by `frameOf`, the fields of a frame, and the one as the inverse of the other
(R35, R40). -/

namespace Sys2Proof

variable (h c : Byte) (p : Payload) (k : Byte) (f : Frame)

@[simp] theorem frameOf_head : (frameOf h c p k)[0] = h := by simp [frameOf]
@[simp] theorem frameOf_cmd : (frameOf h c p k)[1] = c := by simp [frameOf]
@[simp] theorem frameOf_checksum : (frameOf h c p k)[19] = k := by simp [frameOf]

/-- Payload byte `i` is frame byte `2 + i` (R31, R43). -/
theorem frameOf_payload_byte (i : Nat) (hi : i < 17) : (frameOf h c p k)[i + 2]'(by show i + 2 < 20; omega) = p[i] := by
  simp [frameOf, hi]

@[simp] theorem framePayload_getElem (i : Nat) (hi : i < 17) : (framePayload f)[i] = f[i + 2]'(by show i + 2 < 20; omega) := by
  simp [framePayload]

@[simp] theorem framePayload_frameOf : framePayload (frameOf h c p k) = p := by
  apply Vector.ext
  intro i hi
  exact (framePayload_getElem _ i hi).trans (frameOf_payload_byte h c p k i hi)

/-- A frame is made of its own fields. -/
theorem frameOf_fields : frameOf f[0] f[1] (framePayload f) f[19] = f := by
  apply Vector.ext
  intro i hi
  match i, hi with
  | 0, _ => exact frameOf_head ..
  | 1, _ => exact frameOf_cmd ..
  | i + 2, hi =>
    by_cases inside : i < 17
    · exact (frameOf_payload_byte _ _ _ _ i inside).trans (framePayload_getElem f i inside)
    · obtain rfl : i = 17 := by have : i + 2 < 20 := hi; omega
      exact frameOf_checksum ..

/-- The bytes of a frame in wire order (R31). -/
theorem frameOf_toList : (frameOf h c p k).toList = [h, c] ++ p.toList ++ [k] := by
  apply List.ext_getElem
  · simp
  · intro i hi _
    have hi : i < 20 := by simpa using hi
    match i, hi with
    | 0, _ => simp
    | 1, _ => simp
    | i + 2, hi =>
      by_cases inside : i < 17
      · simpa [List.getElem_append, inside] using frameOf_payload_byte h c p k i inside
      · obtain rfl : i = 17 := by omega
        simp

/-- The checksum of a frame made of parts is the XOR of its head byte, its command byte and its payload bytes. -/
theorem csum19_frameOf : Machine.csum19 (frameOf h c p k).toList = h ^^^ c ^^^ Machine.xorFold p.toList := by
  rw [frameOf_toList, Machine.csum19_append _ (by simp [Config.payloadMax])]
  simp [BitVec.xor_assoc]

/-- A frame made of parts is valid exactly when its checksum byte is that XOR (R62). -/
theorem valid_frameOf_iff : Machine.valid (frameOf h c p k) = true ↔ k = h ^^^ c ^^^ Machine.xorFold p.toList := by
  rw [Machine.valid_iff, csum19_frameOf, frameOf_checksum]

end Sys2Proof
end

