-- ==== Sys2Proof/Laws/PerInstr.lean ====
section
/-! SUPPORT. Facts about each instruction as syntax, one lemma a constructor. -/

namespace Sys2Proof.Laws

/-- The request that asks for an operation is addressed to the operation's own unit (R10, R45). -/
def UnitOfRequest.Statement (i : Instr) : Prop := (encode i).unit = some i.unit

theorem UnitOfRequest.encode (h : Head) (c : Cmd) (n : PayloadLen) (p : Payload) :
    UnitOfRequest.Statement (.encode h c n p) := rfl
theorem UnitOfRequest.decode (l : List Byte) : UnitOfRequest.Statement (.decode l) := rfl
theorem UnitOfRequest.readEncStatus : UnitOfRequest.Statement .readEncStatus := rfl
theorem UnitOfRequest.readTxf (i : Nat) : UnitOfRequest.Statement (.readTxf i) := rfl
theorem UnitOfRequest.readDecStatus : UnitOfRequest.Statement .readDecStatus := rfl
theorem UnitOfRequest.readRxp (field : RxField) : UnitOfRequest.Statement (.readRxp field) := rfl
theorem UnitOfRequest.reset : UnitOfRequest.Statement .reset := rfl

variable (p : Payload) (k : Byte)

theorem UnitOfRequest.commandPower : UnitOfRequest.Statement (.commandPower p k) := rfl
theorem UnitOfRequest.commandBrightness : UnitOfRequest.Statement (.commandBrightness p k) := rfl
theorem UnitOfRequest.commandColor : UnitOfRequest.Statement (.commandColor p k) := rfl
theorem UnitOfRequest.commandSegment : UnitOfRequest.Statement (.commandSegment p k) := rfl
theorem UnitOfRequest.requestPower : UnitOfRequest.Statement (.requestPower p k) := rfl
theorem UnitOfRequest.requestBrightness : UnitOfRequest.Statement (.requestBrightness p k) := rfl
theorem UnitOfRequest.requestColor : UnitOfRequest.Statement (.requestColor p k) := rfl
theorem UnitOfRequest.requestSegment : UnitOfRequest.Statement (.requestSegment p k) := rfl

end Sys2Proof.Laws
end

