-- ==== Sys2Proof/Laws/Step.lean ====
section
/-! SUPPORT. What an operation and a step can do, each said once. -/

namespace Sys2Proof.Machine

/-- Everything an operation that completes can have done: ENCODE, DECODE (of any spelling) or RESET on the latches,
or a read that only answers. -/
theorem exec_cases {i : Instr} {s t : State} (h : exec i s = .next t) :
    (∃ hd c n p, i = .encode hd c n p ∧ t = s.finishEncode (encodedUnit hd c n p)) ∨
    (∃ f, i.unit = .decoder ∧ t = s.finishDecode (receivedUnit f)) ∨
    (i.unit = .encoder ∧ ∃ r, t = s.setEncResponse r) ∨
    (i.unit = .decoder ∧ ∃ r, t = s.setDecResponse r) ∨
    (i = .reset ∧ t = State.reset.setRequests s.requests) := by
  cases i with
  | encode hd c n p =>
    rw [exec, execEncode_eq] at h
    injection h with h
    exact .inl ⟨hd, c, n, p, rfl, h.symm⟩
  | decode l =>
    rw [exec, execDecode] at h
    split at h
    · next f _ =>
      injection h with h
      exact .inr (.inl ⟨f, rfl, h.symm.trans (s.receive_eq f)⟩)
    · exact absurd h (by simp)
  | readEncStatus =>
    injection h with h
    exact .inr (.inr (.inl ⟨rfl, _, h.symm⟩))
  | readTxf k =>
    rw [exec, execReadTxf] at h
    split at h
    · injection h with h
      exact .inr (.inr (.inl ⟨rfl, _, h.symm⟩))
    · exact absurd h (by simp)
  | readDecStatus =>
    injection h with h
    exact .inr (.inr (.inr (.inl ⟨rfl, _, h.symm⟩)))
  | readRxp field =>
    rw [exec, execReadRxp] at h
    split at h
    · injection h with h
      exact .inr (.inr (.inr (.inl ⟨rfl, _, h.symm⟩)))
    · exact absurd h (by simp)
  | reset =>
    injection h with h
    exact .inr (.inr (.inr (.inr ⟨rfl, h.symm⟩)))
  | commandPower p k | commandBrightness p k | commandColor p k | commandSegment p k | requestPower p k
  | requestBrightness p k | requestColor p k | requestSegment p k =>
    injection h with h
    exact .inr (.inl ⟨_, rfl, h.symm.trans (s.receive_eq _)⟩)

/-- Everything a step that completes can have done: wait, or serve the first request. -/
theorem step_cases {s t : State} (h : step s = .next t) :
    (s.requests = [] ∧ t = s) ∨
    ∃ r rest i, s.requests = r :: rest ∧ decode r = .ok i ∧ exec i (s.setRequests rest) = .next t := by
  unfold step at h
  split at h
  · next hr =>
    injection h with h
    exact .inl ⟨hr, h.symm⟩
  · next r rest hr =>
    split at h
    · next i hi => exact .inr ⟨r, rest, i, hr, hi, h⟩
    · exact absurd h (by simp)

/-- The first operation of a sequence the host issues. -/
theorem issue_cons_next_iff (i : Instr) (rest : List Instr) (s t : State) :
    issue (i :: rest) s = .next t ↔ ∃ m, exec i s = .next m ∧ issue rest m = .next t := by
  cases h : exec i s <;> simp [issue, h]

/-- The first request of a run whose duties are met: it is an operation, its duty is met, and so are the duties of
the rest if it completes. -/
theorem dutiesMet_cons {r : Request} {rest : List Request} {s : State} (h : dutiesMet (r :: rest) s = true) :
    ∃ i, decode r = .ok i ∧ dutyMet i s = true ∧
      ∀ t, exec i (s.setRequests rest) = .next t → dutiesMet rest t = true := by
  unfold dutiesMet at h
  split at h
  · exact absurd h (by simp)
  · next i hi =>
    rw [Bool.and_eq_true] at h
    exact ⟨i, hi, h.1, fun t ht => by simpa [ht] using h.2⟩

/-- The first step of a run. -/
theorem runSteps_succ_next_iff (n : Nat) (s t : State) :
    runSteps (n + 1) s = .next t ↔ ∃ m, step s = .next m ∧ runSteps n m = .next t := by
  cases h : step s <;> simp [runSteps, h]

/-- A run here is the host interface's run of this machine. -/
theorem core_run_eq (n : Nat) (s : State) : Host.Core.run core n s = runSteps n s := by
  induction n generalizing s with
  | zero => rfl
  | succ n ih =>
    have same : Sys2Proof.core.step s = step s := rfl
    cases h : step s with
    | next t =>
      simp only [Host.Core.run, runSteps, same, h]
      exact ih t
    | fault r =>
      simp only [Host.Core.run, runSteps, same, h]
      rfl
    | refused r =>
      simp only [Host.Core.run, runSteps, same, h]
      rfl

end Sys2Proof.Machine
end

