-- ==== Sys2Proof/Tests/Slice0.lean ====
section
/-! SUPPORT. The model's own tests. Expected values are those of spec/95_test_vectors.md (the S and V entries named
at each test), never the model's own output. Then the witnesses: for each statement with hypotheses, concrete values
that meet all of them together. -/

namespace Sys2Proof.Machine.Tests

/-- Twenty bytes as the spec abbreviates them: the given front, zeros up to byte 18, the given byte 19. -/
def frameBytes (front : List Byte) (last : Byte) : List Byte :=
  front ++ List.replicate (19 - front.length) 0x00 ++ [last]

/-- Seventeen operand bytes: the given front, then `fill`. -/
def operand (front : List Byte) (fill : Byte) : Payload :=
  Vector.ofFn fun i : Fin 17 => front.getD i fill

/-- The state of an outcome that completes. -/
def nextOf : Host.Outcome State Fault Refusal → Option State
  | .next t => some t
  | _ => none

/-- The reason of an outcome that is refused. -/
def refusalOf : Host.Outcome State Fault Refusal → Option Refusal
  | .refused r => some r
  | _ => none

/-- `ENC_STATUS`'s code and `TXF` after an operation. -/
def encAfter (i : Instr) (s : State) : Option (BitVec 2 × Option (List Byte)) :=
  (nextOf (exec i s)).map fun t => (t.enc.status.code, t.enc.txf.map Vector.toList)

/-- The decoder unit as spec/95_test_vectors.md writes it, classes as codes. -/
structure DecView where
  status : BitVec 2
  head : Option Byte
  headClass : Option (BitVec 2)
  cmd : Option Byte
  cmdClass : Option (BitVec 3)
  data : Option (List Byte)
  deriving DecidableEq

/-- `DEC_STATUS`'s code and the `RX_*` latches after an operation. -/
def decAfter (i : Instr) (s : State) : Option DecView :=
  (nextOf (exec i s)).map fun t =>
    ⟨t.dec.status.code, t.dec.rxHead, t.dec.rxHeadClass.map HeadClass.code, t.dec.rxCmd,
      t.dec.rxCmdClass.map CmdClass.code, t.dec.rxData.map Vector.toList⟩

/-- V20a's frame. -/
def f20a : Frame := #v[0x33, 1, 1, 0, 0, 0, 0, 0, 0, 0, 0, 0, 0, 0, 0, 0, 0, 0, 0, 0x33]

/-- V33's packet. -/
def p33 : Packet := ⟨0xAA, .request, 0xA5, .segment, operand [0x01, 0x15, 0x0A, 0x14, 0x1E] 0⟩

/-- A block after V20a and V33, with the given requests waiting. -/
def busy (rs : List Request) : State where
  enc := ⟨.ok, some f20a⟩
  dec := ⟨.ok, some 0xAA, some .request, some 0xA5, some .segment, some p33.data⟩
  encResponse := .encode .ok (some f20a)
  decResponse := .decode .ok (some p33)
  requests := rs

/-- A block with both units in error (V74's start state). -/
def failed : State where
  enc := ⟨.encodingError, none⟩
  dec := ⟨.checksumError, none, none, none, none, none⟩
  encResponse := .encode .encodingError none
  decResponse := .decode .checksumError none
  requests := []

/-! ### Well-formedness refuses what it should (R88, R91, R93) -/

theorem test_wf_txf_index_20 : (Instr.readTxf 20).wf = false ∧ (Instr.readTxf 19).wf = true := by decide
theorem test_wf_rx_data_index_17 :
    (Instr.readRxp (.data 17)).wf = false ∧ (Instr.readRxp (.data 16)).wf = true := by decide
theorem test_wf_decode_lengths : (Instr.decode (List.replicate 19 0)).wf = false ∧
    (Instr.decode (List.replicate 21 0)).wf = false ∧ (Instr.decode (List.replicate 20 0)).wf = true := by decide

/-! ### Decoding: every constructor from what the host presents (R26, R45, R51) -/

theorem test_decode_encode : decode (.encReq 1 2 18 (operand [7] 9)) = .ok (.encode .request .color 18 (operand [7] 9)) := by
  decide
theorem test_decode_encode_selectors :
    decode (.encReq 0 0 0 (operand [] 0)) = .ok (.encode .command .power 0 (operand [] 0)) ∧
    decode (.encReq 0 1 0 (operand [] 0)) = .ok (.encode .command .brightness 0 (operand [] 0)) ∧
    decode (.encReq 1 3 0 (operand [] 0)) = .ok (.encode .request .segment 0 (operand [] 0)) := by
  decide
theorem test_decode_decode : decode (.decReq (frameBytes [0x55, 0x01, 0x01] 0x55)) =
    .ok (.decode (frameBytes [0x55, 0x01, 0x01] 0x55)) := by decide
theorem test_decode_reads : decode .encStatusReq = .ok .readEncStatus ∧ decode (.txfReq 0) = .ok (.readTxf 0) ∧
    decode .decStatusReq = .ok .readDecStatus ∧ decode (.rxpReq .cmdClass) = .ok (.readRxp .cmdClass) ∧
    decode .resetReq = .ok .reset := by decide
theorem test_decode_command_power : decode (.decReq
    [0x33, 0x01, 1, 2, 3, 4, 5, 6, 7, 8, 9, 10, 11, 12, 13, 14, 15, 16, 17, 0xFE]) =
    .ok (.commandPower #v[1, 2, 3, 4, 5, 6, 7, 8, 9, 10, 11, 12, 13, 14, 15, 16, 17] 0xFE) := by decide
theorem test_decode_command_brightness :
    decode (.decReq (frameBytes [0x33, 0x04, 0x64] 0x53)) = .ok (.commandBrightness (operand [0x64] 0) 0x53) := by decide
theorem test_decode_command_color :
    decode (.decReq (frameBytes [0x33, 0x05, 0x02, 0xFF] 0xCB)) = .ok (.commandColor (operand [0x02, 0xFF] 0) 0xCB) := by
  decide
theorem test_decode_command_segment :
    decode (.decReq (frameBytes [0x33, 0xA5] 0x96)) = .ok (.commandSegment (operand [] 0) 0x96) := by decide
theorem test_decode_request_power :
    decode (.decReq (frameBytes [0xAA, 0x01] 0xAB)) = .ok (.requestPower (operand [] 0) 0xAB) := by decide
theorem test_decode_request_brightness :
    decode (.decReq (frameBytes [0xAA, 0x04, 0x80] 0x2E)) = .ok (.requestBrightness (operand [0x80] 0) 0x2E) := by decide
theorem test_decode_request_color : decode (.decReq (frameBytes [0xAA, 0x05, 0x02, 0x0A, 0x14, 0x1E] 0xAD)) =
    .ok (.requestColor (operand [0x02, 0x0A, 0x14, 0x1E] 0) 0xAD) := by decide
theorem test_decode_request_segment : decode (.decReq (frameBytes [0xAA, 0xA5, 0x01, 0x15, 0x0A, 0x14, 0x1E] 0x1B)) =
    .ok (.requestSegment (operand [0x01, 0x15, 0x0A, 0x14, 0x1E] 0) 0x1B) := by decide
theorem test_decode_rejections : decode (.decReq (List.replicate 19 0)) = .error .frameLength ∧
    decode (.decReq []) = .error .frameLength ∧ decode (.txfReq 20) = .error .txfIndex ∧
    decode (.rxpReq (.data 17)) = .error .rxDataIndex ∧ decode .unlisted = .error .unlistedOperation := by decide
/-- R32 and R51: as the number `V`, byte 0 of the frame is its low byte, `V[7:0]` = 0xAA, `V[15:8]` = 0xA5. -/
theorem test_table_word_request_segment :
    decodeTableWord 160 0xA5AA = some (.requestSegment (operand [] 0) 0) := by decide
theorem test_pack_low_byte_first : (packFrame f20a).extractLsb' 152 8 = 0x33 ∧ (packFrame f20a).extractLsb' 8 8 = 1 := by
  decide

/-! ### The checksum (V5, V9, V13, V15) -/

theorem test_xor_fold_V5 : xorFold (List.replicate 19 0xFF) = 0xFF := by decide
theorem test_csum19_V9 :
    csum19 [0x33, 0xA5, 1, 2, 3, 4, 5, 6, 7, 8, 9, 10, 11, 12, 13, 14, 15, 16, 17, 0x00] = 0x97 := by decide

/-! ### ENCODE -/

/-- V22e: stale bytes beyond `plen` do not reach the frame. -/
theorem test_encode_V22e : encAfter (.encode .command .power 1 (operand [0x01, 0xDE, 0xAD, 0xBE, 0xEF] 0x55)) State.reset =
    some (1, some (frameBytes [0x33, 0x01, 0x01] 0x33)) := by decide
/-- V23a, V23d: eighteen bytes are too many, and the earlier frame is withdrawn. -/
theorem test_encode_V23d : encAfter (.encode .command .power 18 (operand [] 0)) (busy []) = some (2, none) := by decide

/-! ### DECODE -/

/-- V39: an unknown head with a known command. -/
theorem test_decode_V39 : decAfter (.decode (frameBytes [0x55, 0x01, 0x01] 0x55)) failed =
    some ⟨1, some 0x55, some 2, some 0x01, some 0, some (0x01 :: List.replicate 16 0x00)⟩ := by decide
/-- V47: the all-zero frame with bit 0 of byte 19 set; the packet of V33 is withdrawn. -/
theorem test_decode_V47 : decAfter (.decode (frameBytes [] 0x01)) (busy []) = some ⟨2, none, none, none, none, none⟩ := by
  decide
/-- V55: nineteen bytes are refused. -/
theorem test_decode_V55 :
    refusalOf (exec (.decode ([0x33, 0x01, 0x01] ++ List.replicate 16 0)) (busy [])) = some (.rejected .frameLength) := by
  decide

/-! ### The frame types (V30 to V34 and section 3.2) -/

theorem test_command_power_V30 : decAfter (.commandPower (operand [0x01] 0) 0x33) State.reset =
    some ⟨1, some 0x33, some 0, some 0x01, some 0, some (0x01 :: List.replicate 16 0)⟩ := by decide
theorem test_command_brightness_V20f : decAfter (.commandBrightness (operand [0x64] 0) 0x53) State.reset =
    some ⟨1, some 0x33, some 0, some 0x04, some 1, some (0x64 :: List.replicate 16 0)⟩ := by decide
theorem test_command_color_V20l : decAfter (.commandColor (operand [0x04, 0x0A] 0) 0x38) State.reset =
    some ⟨1, some 0x33, some 0, some 0x05, some 2, some ([0x04, 0x0A] ++ List.replicate 15 0)⟩ := by decide
theorem test_command_segment_V34 :
    decAfter (.commandSegment #v[1, 2, 3, 4, 5, 6, 7, 8, 9, 10, 11, 12, 13, 14, 15, 16, 17] 0x97) State.reset =
    some ⟨1, some 0x33, some 0, some 0xA5, some 3, some [1, 2, 3, 4, 5, 6, 7, 8, 9, 10, 11, 12, 13, 14, 15, 16, 17]⟩ := by
  decide
theorem test_request_power_V21e : decAfter (.requestPower (operand [] 0) 0xAB) State.reset =
    some ⟨1, some 0xAA, some 1, some 0x01, some 0, some (List.replicate 17 0)⟩ := by decide
theorem test_request_brightness_V31 : decAfter (.requestBrightness (operand [0x64] 0) 0xCA) State.reset =
    some ⟨1, some 0xAA, some 1, some 0x04, some 1, some (0x64 :: List.replicate 16 0)⟩ := by decide
theorem test_request_color_V32 : decAfter (.requestColor (operand [0x02, 0x0A, 0x14, 0x1E] 0) 0xAD) State.reset =
    some ⟨1, some 0xAA, some 1, some 0x05, some 2, some ([0x02, 0x0A, 0x14, 0x1E] ++ List.replicate 13 0)⟩ := by decide
theorem test_request_segment_V46 : decAfter (.requestSegment (operand [0x01, 0x15, 0x0A, 0x14, 0x1E] 0) 0x00) (busy []) =
    some ⟨2, none, none, none, none, none⟩ := by decide

/-! ### Reads and RESET (V60 to V75) -/

theorem test_read_enc_status_V67 : (nextOf (exec .readEncStatus failed)).map State.encResponse = some (.status 2) := by
  decide
theorem test_read_dec_status_V71 : (nextOf (exec .readDecStatus failed)).map State.decResponse = some (.status 2) := by
  decide
theorem test_read_txf_V64 : (nextOf (exec (.readTxf 19) (busy []))).map State.encResponse = some (.txf 0x33) := by decide
theorem test_read_txf_V62 : refusalOf (exec (.readTxf 0) State.reset) = some .txfNone := by decide
theorem test_read_rxp_V69 : (nextOf (exec (.readRxp (.data 2)) (busy []))).map State.decResponse =
    some (.rxp (.data 0x0A)) := by decide
theorem test_read_rxp_V68 : (nextOf (exec (.readRxp .cmdClass) (busy []))).map State.decResponse =
    some (.rxp (.cmdClass 3)) := by decide
theorem test_reset_V72 : encAfter .reset (busy []) = some (0, none) ∧
    decAfter .reset (busy []) = some ⟨0, none, none, none, none, none⟩ := by decide
/-- V75: an ENCODE does not touch the decoder unit. -/
theorem test_encode_V75 : decAfter (.encode .command .power 1 (operand [0x01] 0)) State.reset =
    some ⟨0, none, none, none, none, none⟩ := by decide

/-! ### The step -/

theorem test_step_serves_and_removes : (nextOf (step (busy [.resetReq, .encStatusReq]))).map State.requests =
    some [.encStatusReq] := by decide
theorem test_step_refuses_unlisted : refusalOf (step (busy [.unlisted])) = some (.rejected .unlistedOperation) := by decide

/-! ### Witnesses: the hypotheses of each statement, met together by concrete values -/

theorem witness_DecodeOfEncodeIsIdentity :
    (Instr.requestSegment p33.data 0x1B).wf = true ∧ (Instr.requestSegment p33.data 0x1B).spelled = true := by decide
theorem witness_DecodeOfEncodeIsIdentity_unknown_type :
    (Instr.decode (frameBytes [0x33, 0x77, 0x09] 0x4D)).wf = true ∧
      (Instr.decode (frameBytes [0x33, 0x77, 0x09] 0x4D)).spelled = true := by decide
theorem witness_DecodedOperationEncodesBack : decode (.rxpReq (.data 16)) = .ok (.readRxp (.data 16)) := by decide
theorem witness_StepServesTheFirstRequest : (busy [.txfReq 19]).requests = .txfReq 19 :: [] ∧
    decode (.txfReq 19) = .ok (.readTxf 19) ∧ (busy [.txfReq 20]).requests = .txfReq 20 :: [] ∧
    decode (.txfReq 20) = .error .txfIndex ∧ (busy []).requests = [] := by decide
theorem witness_TableWordIsServedNext : decodeTableWord 160 0xA5AA = some (.requestSegment (operand [] 0) 0) ∧
    decodeTableWord 8 6 = some .reset := by decide
theorem witness_XorFoldIgnoresOrder : ([0x01, 0x02, 0x04] : List Byte).Perm [0x04, 0x01, 0x02] := by decide
/-- V40 (one flip in byte 19) and V50 (bit 0 flipped in bytes 2 and 3) of V30's frame. -/
theorem witness_DetectionIsOddParity : valid f20a = true ∧ flipsAt f20a (f20a.set 19 0x32) 0 = 1 ∧
    flipsAt f20a ((f20a.set 2 0x00).set 3 0x01) 0 = 2 := by decide
theorem witness_SingleBitFlipIsRejected : valid (Vector.replicate 20 0xFF) = true := by decide
theorem witness_EncodedChecksumIgnoresPadding : (17 : PayloadLen).toNat ≤ 17 := by decide
/-- V22a: seventeen bytes, the last length that is no error, and eighteen, the first that is one. -/
theorem witness_EncodeBuildsTheFrame :
    encAfter (.encode .command .segment 17 #v[1, 2, 3, 4, 5, 6, 7, 8, 9, 10, 11, 12, 13, 14, 15, 16, 17]) failed =
      some (1, some [0x33, 0xA5, 1, 2, 3, 4, 5, 6, 7, 8, 9, 10, 11, 12, 13, 14, 15, 16, 17, 0x97]) ∧
    encAfter (.encode .command .segment 18 (operand [] 0)) failed = some (2, none) := by decide
theorem witness_DecodeDeliversOrRejects : valid f20a = true ∧ valid (f20a.set 19 0x32) = false := by decide
theorem witness_StaleBytesNeverReachTheFrame : (16 : PayloadLen).toNat ≤ 17 ∧
    (∀ (i : Nat) (hi : i < 17), i < (16 : PayloadLen).toNat →
      (Vector.replicate 17 (1 : Byte))[i] = ((Vector.replicate 17 (1 : Byte)).set 16 0x99)[i]) := by decide
theorem witness_EncodeIsInjective : ∃ t t',
    exec (.encode .command .power 1 (operand [0x01] 0)) State.reset = .next t ∧
    exec (.encode .command .power 3 (operand [0x01, 0x00, 0x00] 7)) failed = .next t' ∧
    t.enc.txf = some f20a ∧ t'.enc.txf = some f20a := ⟨_, _, rfl, rfl, by decide, by decide⟩
theorem witness_WrongLengthIsRefused : (List.replicate 19 (0 : Byte)).length ≠ 20 ∧
    (List.replicate 21 (0 : Byte)).length ≠ 20 ∧ ([] : List Byte).length ≠ 20 := by decide
theorem witness_RoundTripThroughTheCodec : (17 : PayloadLen).toNat ≤ 17 ∧ (0 : PayloadLen).toNat ≤ 17 := by decide
theorem witness_ReEncodingRestoresTheFrame : ∃ t, exec (.decode f20a.toList) failed = .next t ∧ t.dec.status = .ok ∧
    t.dec.rxHeadClass = some .command ∧ (HeadClass.code .command).toNat = (Head.sel .command).toNat ∧
    t.dec.rxCmdClass = some .power ∧ (CmdClass.code .power).toNat = (Cmd.sel .power).toNat ∧
    t.dec.rxData = some (operand [0x01] 0) :=
  ⟨_, rfl, by decide, by decide, by decide, by decide, by decide, by decide⟩
theorem witness_ReadTxfReturnsTheByte : (19 < 20) ∧ (busy []).enc.status = .ok ∧ (busy []).enc.txf = some f20a ∧
    failed.enc.status ≠ .ok ∧ State.reset.enc.status ≠ .ok ∧ 20 ≤ 20 := by decide
theorem witness_ReadRxpReturnsTheLatch : (busy []).dec.status = .ok ∧ (busy []).dec.rxHead = some 0xAA ∧
    (busy []).dec.rxHeadClass = some .request ∧ (busy []).dec.rxCmd = some 0xA5 ∧
    (busy []).dec.rxCmdClass = some .segment ∧ (busy []).dec.rxData = some p33.data ∧ 16 < 17 ∧
    failed.dec.status ≠ .ok ∧ 17 ≤ 17 := by decide
theorem witness_ReadsWriteNoLatch : ∃ t u v w, exec .readEncStatus (busy []) = .next t ∧
    exec (.readTxf 19) (busy []) = .next u ∧ exec .readDecStatus (busy []) = .next v ∧
    exec (.readRxp (.data 16)) (busy []) = .next w := ⟨_, _, _, _, rfl, rfl, rfl, rfl⟩
theorem witness_ReadsAgreeWithTheEncodeResponse : ∃ t f,
    exec (.encode .command .power 17 (operand [0x01] 0)) failed = .next t ∧ t.encResponse = .encode .ok (some f) :=
  ⟨_, _, rfl, rfl⟩
theorem witness_ReadsAgreeWithTheDecodeResponse : ∃ t pk,
    exec (.decode f20a.toList) failed = .next t ∧ t.decResponse = .decode .ok (some pk) := ⟨_, _, rfl, rfl⟩
theorem busy_inv (rs : List Request) : (busy rs).Inv := by
  refine ⟨⟨by simp [busy], ?_⟩, by simp [busy], by simp [busy], by simp [busy], by simp [busy], by simp [busy], ?_, ?_⟩
  · intro f held
    obtain rfl : f20a = f := by simpa [busy] using held
    exact ⟨by decide, by decide, by decide⟩
  · show some HeadClass.request = some (headClass 0xAA)
    decide
  · show some CmdClass.segment = some (cmdClass 0xA5)
    decide
theorem failed_inv : failed.Inv := by simp [failed, State.Inv, EncUnit.Inv, DecUnit.Inv]
theorem witness_StepKeepsTheInvariant : (busy [.txfReq 19]).Inv ∧ ∃ t, step (busy [.txfReq 19]) = .next t :=
  ⟨busy_inv _, _, rfl⟩
theorem witness_OnlyTheirOperationsWriteTheLatches : ∃ t,
    exec .reset (busy []) = .next t ∧ t.enc ≠ (busy []).enc ∧ t.dec ≠ (busy []).dec := ⟨_, rfl, by decide, by decide⟩
theorem witness_EncoderOperationsLeaveTheDecoder : ∃ t u v,
    exec (.encode .command .power 18 (operand [] 0)) (busy []) = .next t ∧ exec .readEncStatus (busy []) = .next u ∧
    exec (.readTxf 0) (busy []) = .next v := ⟨_, _, _, rfl, rfl, rfl⟩
theorem witness_DecoderOperationsLeaveTheEncoder : ∃ t u v w,
    exec (.decode f20a.toList) (busy []) = .next t ∧ exec .readDecStatus (busy []) = .next u ∧
    exec (.readRxp .head) (busy []) = .next v ∧ exec (.requestColor p33.data 0) (busy []) = .next w :=
  ⟨_, _, _, _, rfl, rfl, rfl, rfl⟩
theorem witness_OperationsLeaveTheRequests : ∃ t, exec .reset (busy [.encStatusReq]) = .next t := ⟨_, rfl⟩
theorem witness_UnitsCommute : (Instr.readTxf 19).unit = .encoder ∧ (Instr.decode f20a.toList).unit = .decoder ∧
    ∃ t u t' u', exec (.readTxf 19) (busy []) = .next t ∧ exec (.decode f20a.toList) t = .next u ∧
      exec (.decode f20a.toList) (busy []) = .next t' ∧ exec (.readTxf 19) t' = .next u' :=
  ⟨rfl, rfl, _, _, _, _, rfl, rfl, rfl, rfl⟩
theorem witness_RequestsOfTheOtherUnit : ∃ t,
    runRequests (busy [.txfReq 19, .decReq (frameBytes [] 1), .resetReq]) = .next t := ⟨_, rfl⟩
theorem witness_CompletesExactlyWhenTheDutyIsMet : (busy []).Inv ∧ dutyMet (.readTxf 19) (busy []) = true ∧
    failed.Inv ∧ dutyMet (.readRxp .head) failed = false :=
  ⟨busy_inv _, by decide, failed_inv, by decide⟩
theorem witness_EachStepServesOneRequest : 2 ≤ (busy [.resetReq, .encStatusReq]).requests.length ∧
    ∃ t, runSteps 2 (busy [.resetReq, .encStatusReq]) = .next t := ⟨by decide, _, rfl⟩
theorem witness_RunsWithoutDataReadsEnd : ∀ r ∈ (busy [.resetReq, .encStatusReq]).requests,
    ∃ i, decode r = .ok i ∧ neverRefused i = true := by
  intro r hr
  simp only [busy, List.mem_cons, List.not_mem_nil, or_false] at hr
  rcases hr with rfl | rfl
  · exact ⟨.reset, by decide, by decide⟩
  · exact ⟨.readEncStatus, by decide, by decide⟩
/-- Both data reads with their duty met, and a second READ_TXF after an ENCODE that ends OK. -/
theorem witness_RunsMeetingTheirDutiesEnd :
    (busy [.txfReq 19, .rxpReq (.data 16), .encReq 0 0 17 p33.data, .txfReq 0]).Inv ∧
    dutiesMet (busy [.txfReq 19, .rxpReq (.data 16), .encReq 0 0 17 p33.data, .txfReq 0]).requests
      (busy [.txfReq 19, .rxpReq (.data 16), .encReq 0 0 17 p33.data, .txfReq 0]) = true :=
  ⟨busy_inv _, by decide⟩
/-- The duty is not met: READ_TXF after an ENCODE that fails (V67). -/
theorem test_duty_after_failed_encode :
    dutiesMet [.encReq 0 0 18 p33.data, .txfReq 0] (busy []) = false := by decide
theorem witness_ReadEncStatusReturnsTheCode :
    (∀ j ∈ [Instr.readTxf 19, .decode f20a.toList], j ≠ .reset ∧ ∀ h c n p, j ≠ .encode h c n p) ∧
    ∃ u, issue [.readTxf 19, .decode f20a.toList] (busy []) = .next u :=
  ⟨by simp, _, rfl⟩
theorem witness_TableWordsAreReadAsLogged : (8 : Nat) ≠ 160 ∧ (7 : Nat) ≤ 7 := by decide

end Sys2Proof.Machine.Tests
end

section
/-! The block's constants (00_scope.md R5). -/

namespace Sys2Proof.Machine

/-- Settles O1: each named constant of `Config` unfolds to the literal of its row in R5's table, so the twelve
equations hold by definition, row by row. -/
theorem constantsHaveTheSpecsValues : Obligations.ConstantsHaveTheSpecsValues :=
  ⟨rfl, rfl, rfl, rfl, rfl, rfl, rfl, rfl, rfl, rfl, rfl, rfl⟩

end Sys2Proof.Machine
end

section
/-! Requests and operations: the decoder and the encoder of requests as inverses of each other (R26, R45, R51). -/

namespace Sys2Proof

/-! ### Selectors (R26, R49) -/

@[simp] theorem Head.ofSel_sel (h : Head) : Head.ofSel h.sel = h := by cases h <;> rfl

@[simp] theorem Cmd.ofSel_sel (c : Cmd) : Cmd.ofSel c.sel = c := by cases c <;> rfl

@[simp] theorem Head.sel_ofSel (b : BitVec 1) : (Head.ofSel b).sel = b := by revert b; decide

@[simp] theorem Cmd.sel_ofSel (b : BitVec 2) : (Cmd.ofSel b).sel = b := by revert b; decide

end Sys2Proof

namespace Sys2Proof.Machine

/-! ### The frame-type table (R51) -/

/-- A row of the table is settled by its head and command byte. -/
theorem frameRow_eq_of_key_eq {row other : FrameRow} (listed : row ∈ frameRows) (other_listed : other ∈ frameRows)
    (key : (row.head, row.cmd) = (other.head, other.cmd)) : row = other :=
  List.inj_on_of_nodup_map (List.pairwise_map.mpr frameRows_disjoint) listed other_listed key

/-- The row a frame matches is the listed row with the frame's bytes 0 and 1. -/
theorem frameRow?_eq_some_iff (f : Frame) (row : FrameRow) :
    frameRow? f = some row ↔ row ∈ frameRows ∧ f[0] = row.head ∧ f[1] = row.cmd := by
  have matches_of_found {found : FrameRow} (h : frameRow? f = some found) :
      found ∈ frameRows ∧ f[0] = found.head ∧ f[1] = found.cmd :=
    ⟨List.mem_of_find?_eq_some h, by simpa using List.find?_some h⟩
  refine ⟨matches_of_found, fun ⟨listed, head_eq, cmd_eq⟩ => ?_⟩
  have some_row_found : (frameRow? f).isSome := List.find?_isSome.mpr ⟨row, listed, by simp [head_eq, cmd_eq]⟩
  obtain ⟨found, hfound⟩ := Option.isSome_iff_exists.mp some_row_found
  obtain ⟨found_listed, found_head, found_cmd⟩ := matches_of_found hfound
  rw [hfound, frameRow_eq_of_key_eq found_listed listed (by simp [← head_eq, ← cmd_eq, ← found_head, ← found_cmd])]

/-- The operation of a listed row: well formed, spelled by its own constructor, and asked for by the frame with
the row's two bytes. -/
theorem instr_of_listed_row {row : FrameRow} (listed : row ∈ frameRows) (p : Payload) (k : Byte) :
    (row.instr p k).wf = true ∧ (row.instr p k).spelled = true ∧
      encode (row.instr p k) = frameReq row.head row.cmd p k := by
  simp only [frameRows, List.mem_cons, List.not_mem_nil, or_false] at listed
  rcases listed with rfl | rfl | rfl | rfl | rfl | rfl | rfl | rfl <;> exact ⟨rfl, rfl, rfl⟩

/-! ### Frames as operations -/

theorem decodeFrame_of_row {f : Frame} {row : FrameRow} (h : frameRow? f = some row) :
    decodeFrame f = row.instr (framePayload f) f[19] := by
  simp [decodeFrame, h]

theorem decodeFrame_of_no_row {f : Frame} (h : frameRow? f = none) : decodeFrame f = .decode f.toList := by
  simp [decodeFrame, h]

/-- DECODE of a frame's bytes is the decoder's spelling exactly when the frame is of no listed type (log entry 6). -/
theorem spelled_decode_toList_iff (f : Frame) : (Instr.decode f.toList).spelled = true ↔ frameRow? f = none := by
  simp [Instr.spelled]

/-- The decoder port reads the twenty bytes of a frame as that frame, and nothing else (R88). -/
theorem decode_decReq_ok_iff (l : List Byte) (i : Instr) :
    decode (.decReq l) = .ok i ↔ ∃ f : Frame, l = f.toList ∧ decodeFrame f = i := by
  simp only [← frameOfBytes?_eq_some_iff]
  cases h : frameOfBytes? l <;> simp [decode, h]

/-- A request for a byte of `TXF` is an operation exactly when its index is in range (R91). -/
theorem decode_txfReq_ok_iff (k : Nat) (i : Instr) : decode (.txfReq k) = .ok i ↔ k < 20 ∧ .readTxf k = i := by
  by_cases inside : k < 20 <;> simp [decode, inside]

/-- A request for a decoder latch is an operation exactly when its field is in range (R93). -/
theorem decode_rxpReq_ok_iff (field : RxField) (i : Instr) :
    decode (.rxpReq field) = .ok i ↔ field.wf = true ∧ .readRxp field = i := by
  by_cases inside : field.wf = true <;> simp [decode, inside]

/-- A frame with a listed row's two bytes is read as the row's operation. -/
theorem decode_frameReq {row : FrameRow} (listed : row ∈ frameRows) (p : Payload) (k : Byte) :
    decode (frameReq row.head row.cmd p k) = .ok (row.instr p k) := by
  have found : frameRow? (frameOf row.head row.cmd p k) = some row := by
    simp [frameRow?_eq_some_iff, listed]
  refine (decode_decReq_ok_iff ..).mpr ⟨_, rfl, ?_⟩
  rw [decodeFrame_of_row found, framePayload_frameOf, frameOf_checksum]

/-- The operation of the table's row `j` comes back from its request. -/
theorem decode_encode_row (j : Fin 8) (p : Payload) (k : Byte) :
    decode (encode ((frameRows[j.val]'j.isLt).instr p k)) = .ok ((frameRows[j.val]'j.isLt).instr p k) := by
  have listed := List.getElem_mem (l := frameRows) j.isLt
  obtain ⟨-, -, encodes⟩ := instr_of_listed_row listed p k
  rw [encodes]
  exact decode_frameReq listed p k

/-- The operation a frame is read as: well formed, in the decoder's spelling, and asked for by that frame's bytes. -/
theorem decodeFrame_encodes_back (f : Frame) :
    (decodeFrame f).wf = true ∧ (decodeFrame f).spelled = true ∧ encode (decodeFrame f) = .decReq f.toList := by
  cases row_found : frameRow? f with
  | none =>
    rw [decodeFrame_of_no_row row_found]
    exact ⟨by simp [Instr.wf], (spelled_decode_toList_iff f).mpr row_found, rfl⟩
  | some row =>
    obtain ⟨listed, head_eq, cmd_eq⟩ := (frameRow?_eq_some_iff f row).mp row_found
    obtain ⟨wf, spelled, encodes⟩ := instr_of_listed_row listed (framePayload f) f[19]
    rw [decodeFrame_of_row row_found]
    refine ⟨wf, spelled, ?_⟩
    rw [encodes, ← head_eq, ← cmd_eq, frameReq, frameOf_fields]

/-! ### The obligations -/

/-- Settles O3, by cases on the operation: an ENCODE's selectors decode to what they encode, a read's index is in
range, a frame of a listed type finds its own row, and DECODE in the decoder's spelling is of a frame that finds none. -/
theorem decodeOfEncodeIsIdentity : Obligations.DecodeOfEncodeIsIdentity := by
  intro i wf spelled
  cases i with
  | encode h c n p => simp [encode, decode]
  | decode l =>
    obtain ⟨f, rfl⟩ : ∃ f : Frame, l = f.toList := by
      simp only [← frameOfBytes?_eq_some_iff, ← Option.ne_none_iff_exists', ne_eq, frameOfBytes?_eq_none_iff]
      simpa [Instr.wf] using wf
    have no_row := (spelled_decode_toList_iff f).mp spelled
    exact (decode_decReq_ok_iff ..).mpr ⟨f, rfl, decodeFrame_of_no_row no_row⟩
  | readTxf k => exact (decode_txfReq_ok_iff ..).mpr ⟨of_decide_eq_true wf, rfl⟩
  | readRxp field => exact (decode_rxpReq_ok_iff ..).mpr ⟨wf, rfl⟩
  | readEncStatus | readDecStatus | reset => rfl
  | commandPower p k => exact decode_encode_row 0 p k
  | commandBrightness p k => exact decode_encode_row 1 p k
  | commandColor p k => exact decode_encode_row 2 p k
  | commandSegment p k => exact decode_encode_row 3 p k
  | requestPower p k => exact decode_encode_row 4 p k
  | requestBrightness p k => exact decode_encode_row 5 p k
  | requestColor p k => exact decode_encode_row 6 p k
  | requestSegment p k => exact decode_encode_row 7 p k

/-- Settles O4, by cases on the port: the selectors and indices come back as they were presented, and a frame comes
back by `decodeFrame_encodes_back`. -/
theorem decodedOperationEncodesBack : Obligations.DecodedOperationEncodesBack := by
  intro r i h
  cases r with
  | encReq headSel cmdSel n p =>
    cases h
    exact ⟨rfl, rfl, by simp [encode]⟩
  | decReq l =>
    obtain ⟨f, rfl, rfl⟩ := (decode_decReq_ok_iff l i).mp h
    exact decodeFrame_encodes_back f
  | txfReq k =>
    obtain ⟨inside, rfl⟩ := (decode_txfReq_ok_iff k i).mp h
    exact ⟨decide_eq_true inside, rfl, rfl⟩
  | rxpReq field =>
    obtain ⟨inside, rfl⟩ := (decode_rxpReq_ok_iff field i).mp h
    exact ⟨inside, rfl, rfl⟩
  | encStatusReq | decStatusReq | resetReq =>
    cases h
    exact ⟨rfl, rfl, rfl⟩
  | unlisted => cases h

/-- Settles O2: the ENCODE request and the two frames by evaluating the decoder on their bytes, the reads and RESET by
the definition of their ports. -/
theorem writtenRequestsDecode : Obligations.WrittenRequestsDecode :=
  ⟨by decide, by decide, by decide, rfl, rfl, rfl, rfl, rfl⟩

end Sys2Proof.Machine
end

section
/-! What a completed operation leaves as it was: the other unit, and the latches a read only answers from (R10, R20,
R33). -/

namespace Sys2Proof.Machine

section
variable {i : Instr} {s t : State}

/-- An operation of the encoder unit leaves the decoder unit's latches and its response (R10, R124). -/
theorem exec_leaves_decoder (unit : i.unit = .encoder) (h : exec i s = .next t) :
    t.dec = s.dec ∧ t.decResponse = s.decResponse := by
  rcases exec_cases h with ⟨hd, c, n, p, -, rfl⟩ | ⟨f, decoder, -⟩ | ⟨-, r, rfl⟩ | ⟨decoder, -⟩ | ⟨rfl, -⟩
  · exact ⟨rfl, rfl⟩
  · simp [unit] at decoder
  · exact ⟨rfl, rfl⟩
  · simp [unit] at decoder
  · simp [Instr.unit] at unit

/-- An operation of the decoder unit leaves the encoder unit's latches and its response (R10, R124). -/
theorem exec_leaves_encoder (unit : i.unit = .decoder) (h : exec i s = .next t) :
    t.enc = s.enc ∧ t.encResponse = s.encResponse := by
  rcases exec_cases h with ⟨hd, c, n, p, rfl, -⟩ | ⟨f, -, rfl⟩ | ⟨encoder, -⟩ | ⟨-, r, rfl⟩ | ⟨rfl, -⟩
  · simp [Instr.unit] at unit
  · exact ⟨rfl, rfl⟩
  · simp [unit] at encoder
  · exact ⟨rfl, rfl⟩
  · simp [Instr.unit] at unit

/-- The operations of the decoder unit: its two reads, and DECODE in each of its spellings (R45, R51). -/
theorem unit_eq_decoder_iff : i.unit = .decoder ↔
    (∃ l, i = .decode l) ∨ i = .readDecStatus ∨ (∃ field, i = .readRxp field) ∨
      ∃ p k, i = .commandPower p k ∨ i = .commandBrightness p k ∨ i = .commandColor p k ∨ i = .commandSegment p k ∨
        i = .requestPower p k ∨ i = .requestBrightness p k ∨ i = .requestColor p k ∨ i = .requestSegment p k := by
  cases i <;> simp [Instr.unit]

/-- READ_DEC_STATUS writes no latch of the decoder (R33, R92). -/
theorem readDecStatus_leaves_dec (h : exec .readDecStatus s = .next t) : t.dec = s.dec := by
  rw [exec_readDecStatus] at h
  cases h
  rfl

/-- READ_RXP writes no latch of the decoder (R33, R93). -/
theorem readRxp_leaves_dec {field : RxField} (h : exec (.readRxp field) s = .next t) : t.dec = s.dec := by
  obtain ⟨v, -, rfl⟩ := (exec_readRxp_next_iff s field t).mp h
  rfl

/-- An operation that changes the encoder's latches is ENCODE or RESET (R13, R14, R20). -/
theorem writes_enc_cases (h : exec i s = .next t) (changed : t.enc ≠ s.enc) :
    i = .reset ∨ ∃ hd c n p, i = .encode hd c n p := by
  rcases exec_cases h with ⟨hd, c, n, p, rfl, -⟩ | ⟨f, -, rfl⟩ | ⟨-, r, rfl⟩ | ⟨-, r, rfl⟩ | ⟨rfl, -⟩
  · exact .inr ⟨hd, c, n, p, rfl⟩
  · exact absurd rfl changed
  · exact absurd rfl changed
  · exact absurd rfl changed
  · exact .inl rfl

/-- An operation that changes the decoder's latches is RESET, or one of the decoder unit's (R10). -/
theorem writes_dec_cases (h : exec i s = .next t) (changed : t.dec ≠ s.dec) : i = .reset ∨ i.unit = .decoder := by
  cases unit : i.unit with
  | encoder => exact absurd (exec_leaves_decoder unit h).1 changed
  | decoder => exact .inr rfl
  | both =>
    left
    cases i <;> simp [Instr.unit] at unit ⊢

end

/-! ### The obligations -/

/-- Settles O44: the encoder's part is `writes_enc_cases`; of the decoder unit's operations the two reads are excluded
because they write no latch, which leaves DECODE in its spellings. -/
theorem onlyTheirOperationsWriteTheLatches : Obligations.OnlyTheirOperationsWriteTheLatches := by
  intro i s t h
  refine ⟨writes_enc_cases h, fun changed => ?_⟩
  rcases writes_dec_cases h changed with reset | unit
  · exact .inl reset
  · rcases unit_eq_decoder_iff.mp unit with decode | rfl | ⟨field, rfl⟩ | frame_type
    · exact .inr (.inl decode)
    · exact absurd (readDecStatus_leaves_dec h) changed
    · exact absurd (readRxp_leaves_dec h) changed
    · exact .inr (.inr frame_type)

/-- Settles O45: the three named operations are of the encoder unit. -/
theorem encoderOperationsLeaveTheDecoder : Obligations.EncoderOperationsLeaveTheDecoder := by
  intro i s t named h
  have unit : i.unit = .encoder := by
    rcases named with ⟨hd, c, n, p, rfl⟩ | rfl | ⟨k, rfl⟩ <;> rfl
  exact exec_leaves_decoder unit h

/-- Settles O46: the named operations are those of the decoder unit. -/
theorem decoderOperationsLeaveTheEncoder : Obligations.DecoderOperationsLeaveTheEncoder :=
  fun _ _ _ named h => exec_leaves_encoder (unit_eq_decoder_iff.mpr named) h

end Sys2Proof.Machine
end

section
/-! The invariant of R24: it holds after power-on and every step keeps it. -/

namespace Sys2Proof.Machine

/-! ### The latches each operation can leave meet their unit's invariant -/

theorem EncUnit.reset_inv : EncUnit.reset.Inv := by simp [EncUnit.Inv]

theorem EncUnit.failed_inv : EncUnit.failed.Inv := by simp [EncUnit.Inv]

theorem DecUnit.reset_inv : DecUnit.reset.Inv := by simp [DecUnit.Inv, DecUnit.reset]

theorem DecUnit.failed_inv : DecUnit.failed.Inv := by simp [DecUnit.Inv, DecUnit.failed]

/-- The wire byte of a head selector is one of the two defined head bytes (R49, R41). -/
theorem headByte_defined (h : Head) : headByte h = Config.headCommand ∨ headByte h = Config.headRequest := by
  cases h <;> simp [headByte]

/-- The wire byte of a command selector is one of the four defined command bytes (R49, R42). -/
theorem cmdByte_defined (c : Cmd) : cmdByte c = Config.cmdPower ∨ cmdByte c = Config.cmdBrightness ∨
    cmdByte c = Config.cmdColor ∨ cmdByte c = Config.cmdSegment := by
  cases c <;> simp [cmdByte]

/-- A sealed frame carries the checksum of its first nineteen bytes (R44). -/
theorem valid_sealFrame (head cmd : Byte) (p : Payload) : valid (sealFrame head cmd p) = true := by
  rw [sealFrame, valid_frameOf_iff]
  simp [csum19, Config.payloadMax, List.take_of_length_le, BitVec.xor_assoc]

/-- The encoder unit holding a frame ENCODE built meets its invariant (R24 items 1 and 3). -/
theorem EncUnit.holding_buildFrame_inv (h : Head) (c : Cmd) (n : PayloadLen) (p : Payload) :
    (EncUnit.holding (buildFrame h c n p)).Inv := by
  refine ⟨by simp, fun f held => ?_⟩
  obtain rfl : buildFrame h c n p = f := by simpa using held
  refine ⟨?_, ?_, (valid_iff _).mp (valid_sealFrame ..)⟩
  · simpa [buildFrame, sealFrame] using headByte_defined h
  · simpa [buildFrame, sealFrame] using cmdByte_defined c

theorem encodedUnit_inv (h : Head) (c : Cmd) (n : PayloadLen) (p : Payload) : (encodedUnit h c n p).Inv := by
  unfold encodedUnit
  split
  · exact EncUnit.failed_inv
  · exact EncUnit.holding_buildFrame_inv h c n p

/-- The decoder unit holding a received frame's packet meets its invariant: its classes are computed from the raw
bytes (R24 items 2 and 4). -/
theorem DecUnit.holding_packetOf_inv (f : Frame) : (DecUnit.holding (packetOf f)).Inv := by
  simp [DecUnit.Inv, packetOf]

theorem receivedUnit_inv (f : Frame) : (receivedUnit f).Inv := by
  unfold receivedUnit
  split
  · exact DecUnit.holding_packetOf_inv f
  · exact DecUnit.failed_inv

/-! ### Power-on, operations, steps -/

theorem State.reset_inv : State.reset.Inv := ⟨EncUnit.reset_inv, DecUnit.reset_inv⟩

/-- An operation that completes keeps the invariant: it leaves a unit as it was or with latches that meet it. -/
theorem exec_keeps_inv {i : Instr} {s t : State} (inv : s.Inv) (h : exec i s = .next t) : t.Inv := by
  obtain ⟨enc_inv, dec_inv⟩ := inv
  rcases exec_cases h with ⟨hd, c, n, p, -, rfl⟩ | ⟨f, -, rfl⟩ | ⟨-, r, rfl⟩ | ⟨-, r, rfl⟩ | ⟨-, rfl⟩
  · exact ⟨encodedUnit_inv hd c n p, dec_inv⟩
  · exact ⟨enc_inv, receivedUnit_inv f⟩
  · exact ⟨enc_inv, dec_inv⟩
  · exact ⟨enc_inv, dec_inv⟩
  · exact State.reset_inv

/-- Settles O43: a step waits, which changes nothing, or serves a request by an operation, which keeps the invariant;
taking the request out of the list touches no latch. -/
theorem stepKeepsTheInvariant : Obligations.StepKeepsTheInvariant := by
  intro s t inv h
  rcases step_cases h with ⟨-, rfl⟩ | ⟨r, rest, i, -, -, served⟩
  · exact inv
  · have without_request : (s.setRequests rest).Inv := inv
    exact exec_keeps_inv without_request served

/-- Settles O42: the reset latches of both units meet their invariants. -/
theorem powerOnMeetsTheInvariant : Obligations.PowerOnMeetsTheInvariant := State.reset_inv

/-! ### The power-on state (R25) -/

theorem DecUnit.reset_holdsNone : DecUnit.reset.holdsNone := ⟨rfl, rfl, rfl, rfl, rfl⟩

/-- Settles O39: RESET leaves both units with the latches of power-on (`exec_reset`), so one list of values serves
both halves. -/
theorem powerOnState : Obligations.PowerOnState := by
  have values : EncUnit.reset.status = .none ∧ EncUnit.reset.status.code = 0 ∧ EncUnit.reset.txf = none ∧
      DecUnit.reset.status = .none ∧ DecUnit.reset.status.code = 0 ∧ DecUnit.reset.holdsNone :=
    ⟨rfl, rfl, rfl, rfl, rfl, DecUnit.reset_holdsNone⟩
  exact ⟨values, fun s => ⟨_, exec_reset s, values⟩⟩

end Sys2Proof.Machine
end

section
/-! Frames as 160-bit values (R32), and the operations the words of spec/opcode_table.json are read as (log entry 7). -/

namespace Sys2Proof

/-! ### Bytes as digits of the packed value (R32) -/

/-- The bytes of a sequence as digits in base 256. -/
def byteDigits (l : List Byte) : List Nat := l.map BitVec.toNat

theorem byteDigits_lt {l : List Byte} : ∀ d ∈ byteDigits l, d < 256 := by
  simp only [byteDigits, List.forall_mem_map]
  exact fun b _ => b.isLt

/-- Byte `i` is digit `i` of the number a byte sequence writes in base 256, byte 0 the lowest digit. -/
theorem ofDigits_byteDigits_digit (l : List Byte) (i : Nat) (h : i < l.length) :
    Nat.ofDigits 256 (byteDigits l) / 256 ^ i % 256 = l[i].toNat := by
  rw [Nat.ofDigits_div_pow_eq_ofDigits_drop i (by decide) _ byteDigits_lt, byteDigits, ← List.map_drop,
    List.drop_eq_getElem_cons h, List.map_cons, Nat.ofDigits_mod_eq_head!]
  exact Nat.mod_eq_of_lt l[i].isLt

/-- The packed value is the number the frame's bytes write in base 256: twenty digits fit in 160 bits. -/
theorem packFrame_toNat (f : Frame) : (packFrame f).toNat = Nat.ofDigits 256 (byteDigits f.toList) := by
  have packed : f.toList.foldr (fun b acc => b.toNat + 256 * acc) 0 = Nat.ofDigits 256 (byteDigits f.toList) := by
    simp [byteDigits, Nat.ofDigits_eq_foldr, List.foldr_map]
  have fits : Nat.ofDigits 256 (byteDigits f.toList) < 256 ^ (byteDigits f.toList).length :=
    Nat.ofDigits_lt_base_pow_length (by decide) byteDigits_lt
  have twenty : (byteDigits f.toList).length = 20 := by simp [byteDigits]
  rw [twenty] at fits
  rw [packFrame, packed, BitVec.toNat_ofNat]
  exact Nat.mod_eq_of_lt fits

/-- Frame byte `i` is bits `8*i+7 : 8*i` of the packed value (R32). -/
theorem packFrame_byte (f : Frame) (i : Nat) (h : i < 20) : (packFrame f).extractLsb' (8 * i) 8 = f[i] := by
  apply BitVec.eq_of_toNat_eq
  rw [BitVec.extractLsb'_toNat, packFrame_toNat, Nat.shiftRight_eq_div_pow, Nat.pow_mul]
  exact ofDigits_byteDigits_digit f.toList i (by simpa using h)

theorem unpackFrame_byte (v : BitVec 160) (i : Nat) (h : i < 20) : (unpackFrame v)[i] = v.extractLsb' (8 * i) 8 := by
  simp [unpackFrame]

@[simp] theorem unpackFrame_packFrame (f : Frame) : unpackFrame (packFrame f) = f := by
  apply Vector.ext
  intro i hi
  exact (unpackFrame_byte _ i hi).trans (packFrame_byte f i hi)

/-- The twenty bytes settle the value: bit `j` is bit `j % 8` of byte `j / 8`. -/
theorem unpackFrame_injective : Function.Injective unpackFrame := by
  intro v w same
  apply BitVec.eq_of_getLsbD_eq
  intro j hj
  have in_frame : j / 8 < 20 := Nat.div_lt_of_lt_mul hj
  have same_byte : v.extractLsb' (8 * (j / 8)) 8 = w.extractLsb' (8 * (j / 8)) 8 := by
    rw [← unpackFrame_byte v _ in_frame, ← unpackFrame_byte w _ in_frame, same]
  have same_bit := congrArg (fun byte => byte.getLsbD (j % 8)) same_byte
  simpa [Nat.mod_lt, Nat.div_add_mod] using same_bit

/-! ### The words of the table (log entry 7) -/

/-- A word of 160 bits that packs a frame is that frame's request at the decoder port. -/
theorem tableRequest_packFrame (f : Frame) : tableRequest 160 (packFrame f).toNat = .decReq f.toList := by
  have read : tableRequest 160 (packFrame f).toNat = .decReq (unpackFrame (BitVec.ofNat _ (packFrame f).toNat)).toList :=
    if_pos rfl
  rw [read, BitVec.ofNat_toNat, BitVec.setWidth_eq, unpackFrame_packFrame]

/-- A word that packs a frame of a listed type is read as the row's operation. -/
theorem decodeTableWord_packFrame_row {row : FrameRow} (listed : row ∈ frameRows) (p : Payload) (k : Byte) :
    decodeTableWord 160 (packFrame (frameOf row.head row.cmd p k)).toNat = some (row.instr p k) := by
  have decoded := Machine.decode_frameReq listed p k
  rw [frameReq] at decoded
  rw [decodeTableWord, tableRequest_packFrame, decoded]
  rfl

/-- Row `j` of the frame-type table, by its number. -/
theorem decodeTableWord_packFrame_getElem (j : Fin 8) (p : Payload) (k : Byte) :
    decodeTableWord 160 (packFrame (frameOf frameRows[j].head frameRows[j].cmd p k)).toNat =
      some (frameRows[j].instr p k) :=
  decodeTableWord_packFrame_row (List.getElem_mem (l := frameRows) j.isLt) p k

/-- A word that is no frame is the number of a port, whatever its size. -/
theorem tableRequest_of_size_ne {nbits : Nat} (h : nbits ≠ 160) (w : Nat) : tableRequest nbits w = tableRequest 0 w :=
  if_neg h

/-- The seven ports have the numbers 0 to 6. -/
theorem tableRequest_past_last_port {nbits w : Nat} (h : nbits ≠ 160) (past : 7 ≤ w) :
    tableRequest nbits w = .unlisted := by
  obtain ⟨n, rfl⟩ := Nat.exists_eq_add_of_le' past
  rw [tableRequest_of_size_ne h]
  rfl

end Sys2Proof

namespace Sys2Proof.Machine

/-! ### The obligations -/

/-- Settles O6: byte `i` is digit `i` of the packed value in base 256, and a value is settled by its twenty bytes, so
packing what was unpacked cannot give another value. -/
theorem framePackingIsExact : Obligations.FramePackingIsExact :=
  ⟨packFrame_byte, unpackFrame_packFrame, fun v => unpackFrame_injective (unpackFrame_packFrame (unpackFrame v))⟩

/-- Settles O55: a packed frame unpacks to itself, and a frame of a listed type decodes to its row's operation; below
seven a word of another size is evaluated port by port, its size being immaterial. -/
theorem tableWordsAreReadAsLogged : Obligations.TableWordsAreReadAsLogged := by
  have row := decodeTableWord_packFrame_getElem
  refine ⟨tableRequest_packFrame, fun p k => ⟨row 0 p k, row 1 p k, row 2 p k, row 3 p k, row 4 p k, row 5 p k,
    row 6 p k, row 7 p k⟩, fun nbits not_frame => ?_⟩
  have port (w : Nat) : decodeTableWord nbits w = decodeTableWord 0 w := by
    rw [decodeTableWord, tableRequest_of_size_ne not_frame, decodeTableWord]
  refine ⟨port 0, port 1, port 2, port 3, port 4, port 5, port 6, fun w past => ?_⟩
  have unlisted := tableRequest_past_last_port not_frame past
  exact ⟨unlisted, by rw [decodeTableWord, unlisted]; rfl⟩

end Sys2Proof.Machine
end

section
/-! The step and the run, request by request (R34, R95, R97). -/

namespace Sys2Proof.Machine

/-! ### One step (R34, R95) -/

section
variable {s : State} {r : Request} {rest : List Request}

theorem step_of_operation {i : Instr} (waiting : s.requests = r :: rest) (h : decode r = .ok i) :
    step s = exec i (s.setRequests rest) := by
  simp [step, waiting, h]

theorem step_of_rejected {e : DecodeError} (waiting : s.requests = r :: rest) (h : decode r = .error e) :
    step s = .refused (.rejected e) := by
  simp [step, waiting, h]

theorem step_of_none_waiting (waiting : s.requests = []) : step s = .next s := by
  simp [step, waiting]

/-! ### Runs (R97) -/

/-- No operation touches the waiting requests (R95, R96). -/
theorem exec_leaves_requests {i : Instr} {t : State} (h : exec i s = .next t) : t.requests = s.requests := by
  rcases exec_cases h with ⟨hd, c, n, p, -, rfl⟩ | ⟨f, -, rfl⟩ | ⟨-, a, rfl⟩ | ⟨-, a, rfl⟩ | ⟨-, rfl⟩ <;> rfl

theorem runRequests_of_none_waiting (waiting : s.requests = []) : runRequests s = .next s := by
  simp [runRequests, waiting, runSteps]

/-- A run serves its first request and goes on as the run of the rest. -/
theorem runRequests_next_iff (waiting : s.requests = r :: rest) (t : State) :
    runRequests s = .next t ↔
      ∃ i m, decode r = .ok i ∧ exec i (s.setRequests rest) = .next m ∧ runRequests m = .next t := by
  have rest_length {i : Instr} {m : State} (served : exec i (s.setRequests rest) = .next m) :
      runRequests m = runSteps rest.length m := by
    rw [runRequests, exec_leaves_requests served, State.setRequests_requests]
  rw [runRequests, waiting, List.length_cons, runSteps_succ_next_iff]
  constructor
  · rintro ⟨m, stepped, run⟩
    cases decoded : decode r with
    | error e =>
      rw [step_of_rejected waiting decoded] at stepped
      cases stepped
    | ok i =>
      rw [step_of_operation waiting decoded] at stepped
      exact ⟨i, m, rfl, stepped, (rest_length stepped).trans run⟩
  · rintro ⟨i, m, decoded, served, run⟩
    exact ⟨m, (step_of_operation waiting decoded).trans served, (rest_length served).symm.trans run⟩

end

/-! ### The obligation -/

/-- Settles O8: the three branches of the step. -/
theorem stepServesTheFirstRequest : Obligations.StepServesTheFirstRequest :=
  ⟨fun _ _ _ _ => step_of_operation, fun _ _ _ _ => step_of_rejected, fun _ => step_of_none_waiting⟩

end Sys2Proof.Machine
end

section
/-! What the two units cannot see of each other: each unit's operations as partial functions of its own latches, and
the runs of its own requests alone (R10, R37, R124). -/

namespace Sys2Proof.Machine

/-- An operation belongs to the unit its request is addressed to (R10, R45). -/
theorem unit_of_decode {r : Request} {i : Instr} (h : decode r = .ok i) : r.unit = some i.unit := by
  obtain ⟨-, -, rfl⟩ := decodedOperationEncodesBack r i h
  cases i <;> rfl

/-! ### What an operation does, by its unit (R10, R37) -/

@[simp] theorem State.setEnc_self (s : State) : s.setEnc s.enc = s := rfl
@[simp] theorem State.setDec_self (s : State) : s.setDec s.dec = s := rfl

/-- What an operation of the encoder unit makes of that unit's latches and answers, if it completes. -/
def encoderEffect : Instr → EncUnit → Option (EncUnit × EncResponse)
  | .encode h c n p, _ => some (encodedUnit h c n p, (encodedUnit h c n p).response)
  | .readEncStatus, e => some (e, .status e.status.code)
  | .readTxf k, e => (e.readTxf k).toOption.map fun b => (e, .txf b)
  | _, _ => none

/-- What an operation of the decoder unit makes of that unit's latches and answers, if it completes; a frame type acts
as its request, a frame presented to DECODE (log entry 6). -/
def decoderEffect (i : Instr) (d : DecUnit) : Option (DecUnit × DecResponse) :=
  match encode i with
  | .decReq l => (frameOfBytes? l).map fun f => (receivedUnit f, (receivedUnit f).response)
  | .decStatusReq => some (d, .status d.status.code)
  | .rxpReq field => (d.readRxp field).toOption.map fun v => (d, .rxp v)
  | _ => none

/-- A completed operation of the encoder unit does its effect on that unit's latches and response, and nothing else. -/
theorem exec_encoder_next_iff {i : Instr} (unit : i.unit = .encoder) (s t : State) :
    exec i s = .next t ↔ ∃ e r, encoderEffect i s.enc = some (e, r) ∧ t = (s.setEnc e).setEncResponse r := by
  cases i with
  | encode h c n p => simp [exec_encode, encoderEffect, State.finishEncode, eq_comm]
  | readEncStatus => simp [exec_readEncStatus, encoderEffect, eq_comm]
  | readTxf k =>
    rw [exec_readTxf_next_iff, encoderEffect]
    cases s.enc.readTxf k <;> simp [Except.toOption]
  | _ => cases unit

/-- A completed operation of the decoder unit does its effect on that unit's latches and response, and nothing else. -/
theorem exec_decoder_next_iff {i : Instr} (unit : i.unit = .decoder) (s t : State) :
    exec i s = .next t ↔ ∃ d r, decoderEffect i s.dec = some (d, r) ∧ t = (s.setDec d).setDecResponse r := by
  cases i with
  | decode l =>
    rw [exec, execDecode]
    cases found : frameOfBytes? l <;>
      simp [decoderEffect, encode, found, State.receive_eq, State.finishDecode, eq_comm]
  | readDecStatus => simp [exec_readDecStatus, decoderEffect, encode, eq_comm]
  | readRxp field =>
    rw [exec_readRxp_next_iff]
    cases found : s.dec.readRxp field <;> simp [decoderEffect, encode, found, Except.toOption]
  | commandPower p k | commandBrightness p k | commandColor p k | commandSegment p k | requestPower p k
  | requestBrightness p k | requestColor p k | requestSegment p k =>
    simp [exec_commandPower, exec_commandBrightness, exec_commandColor, exec_commandSegment, exec_requestPower,
      exec_requestBrightness, exec_requestColor, exec_requestSegment, decoderEffect, encode, frameReq,
      State.finishDecode, eq_comm]
  | _ => cases unit

/-! ### Requests a part of the state cannot see (R37, R124) -/

/-- A part of the state, read by `view`, depends on the requests in `acts` alone: the list of waiting requests is no
part of it, operations of other requests leave it, and what operations of these make of it, it determines itself. -/
structure DependsOnlyOn {α : Type} (view : State → α) (acts : Request → Bool) : Prop where
  excludes_list : ∀ (s : State) (rs : List Request), view (s.setRequests rs) = view s
  left_by_others : ∀ {r : Request} {i : Instr} {s t : State}, decode r = .ok i → acts r = false →
    exec i s = .next t → view t = view s
  determines_itself : ∀ {r : Request} {i : Instr} {s t s' : State}, decode r = .ok i → acts r = true →
    exec i s = .next t → view s' = view s → ∃ t', exec i s' = .next t' ∧ view t' = view t

/-- After a completed run, such a part is as after the run of the requests in `acts` alone. -/
theorem DependsOnlyOn.run {α : Type} {view : State → α} {acts : Request → Bool} (part : DependsOnlyOn view acts)
    {rs : List Request} {s s' t : State} (waiting : s.requests = rs) (waiting' : s'.requests = rs.filter acts)
    (same : view s' = view s) (run : runRequests s = .next t) :
    ∃ t', runRequests s' = .next t' ∧ view t' = view t := by
  induction rs generalizing s s' with
  | nil =>
    rw [runRequests_of_none_waiting waiting] at run
    cases run
    exact ⟨s', runRequests_of_none_waiting waiting', same⟩
  | cons r rest ih =>
    obtain ⟨i, m, decoded, served, run_rest⟩ := (runRequests_next_iff waiting t).mp run
    have rest_waits := exec_leaves_requests served
    cases acting : acts r with
    | false =>
      rw [List.filter_cons_of_neg (by simp [acting])] at waiting'
      have unseen := part.left_by_others decoded acting served
      rw [part.excludes_list] at unseen
      exact ih rest_waits waiting' (same.trans unseen.symm) run_rest
    | true =>
      rw [List.filter_cons_of_pos acting] at waiting'
      have same_before : view (s'.setRequests (rest.filter acts)) = view (s.setRequests rest) := by
        rw [part.excludes_list, part.excludes_list, same]
      obtain ⟨m', served', same_after⟩ := part.determines_itself decoded acting served same_before
      obtain ⟨t', run', same_end⟩ := ih rest_waits (exec_leaves_requests served') same_after run_rest
      exact ⟨t', (runRequests_next_iff waiting' t').mpr ⟨i, m', decoded, served', run'⟩, same_end⟩

/-- What the encoder unit holds and last returned. -/
def State.encoderView (s : State) : EncUnit × EncResponse := (s.enc, s.encResponse)

/-- What the decoder unit holds and last returned. -/
def State.decoderView (s : State) : DecUnit × DecResponse := (s.dec, s.decResponse)

/-- The requests that act on the encoder unit ask for every operation but the decoder unit's (R37). -/
theorem actsOnEncoder_of_decode {r : Request} {i : Instr} (decoded : decode r = .ok i) :
    actsOnEncoder r = true ↔ i.unit ≠ .decoder := by
  rw [actsOnEncoder, unit_of_decode decoded]
  cases i.unit <;> simp

/-- The requests that act on the decoder unit ask for every operation but the encoder unit's (R37). -/
theorem actsOnDecoder_of_decode {r : Request} {i : Instr} (decoded : decode r = .ok i) :
    actsOnDecoder r = true ↔ i.unit ≠ .encoder := by
  rw [actsOnDecoder, unit_of_decode decoded]
  cases i.unit <;> simp

/-- RESET is the one operation of both units (R45). -/
theorem eq_reset_of_unit_both {i : Instr} (unit : i.unit = .both) : i = .reset := by
  cases i with
  | reset => rfl
  | _ => cases unit

theorem encoderView_dependsOnlyOn : DependsOnlyOn State.encoderView actsOnEncoder where
  excludes_list _ _ := rfl
  left_by_others {r i s t} decoded other served := by
    have unit : i.unit = .decoder := by simpa [other] using actsOnEncoder_of_decode decoded
    obtain ⟨same_enc, same_response⟩ := exec_leaves_encoder unit served
    exact Prod.ext same_enc same_response
  determines_itself {r i s t s'} decoded acting served same := by
    have same_enc : s'.enc = s.enc := congrArg Prod.fst same
    cases unit : i.unit with
    | encoder =>
      obtain ⟨e, a, effect, rfl⟩ := (exec_encoder_next_iff unit s t).mp served
      exact ⟨_, (exec_encoder_next_iff unit s' _).mpr ⟨e, a, same_enc ▸ effect, rfl⟩, rfl⟩
    | decoder => exact absurd unit ((actsOnEncoder_of_decode decoded).mp acting)
    | both =>
      obtain rfl := eq_reset_of_unit_both unit
      cases served
      exact ⟨_, exec_reset s', rfl⟩

theorem decoderView_dependsOnlyOn : DependsOnlyOn State.decoderView actsOnDecoder where
  excludes_list _ _ := rfl
  left_by_others {r i s t} decoded other served := by
    have unit : i.unit = .encoder := by simpa [other] using actsOnDecoder_of_decode decoded
    obtain ⟨same_dec, same_response⟩ := exec_leaves_decoder unit served
    exact Prod.ext same_dec same_response
  determines_itself {r i s t s'} decoded acting served same := by
    have same_dec : s'.dec = s.dec := congrArg Prod.fst same
    cases unit : i.unit with
    | encoder => exact absurd unit ((actsOnDecoder_of_decode decoded).mp acting)
    | decoder =>
      obtain ⟨d, a, effect, rfl⟩ := (exec_decoder_next_iff unit s t).mp served
      exact ⟨_, (exec_decoder_next_iff unit s' _).mpr ⟨d, a, same_dec ▸ effect, rfl⟩, rfl⟩
    | both =>
      obtain rfl := eq_reset_of_unit_both unit
      cases served
      exact ⟨_, exec_reset s', rfl⟩

/-! ### The obligations -/

/-- Settles O48: each operation's effect is read from and written to its own unit's latches and response, which the
other leaves, so both orders have the same two effects. -/
theorem unitsCommute : Obligations.UnitsCommute := by
  intro i j s t u enc_unit dec_unit
  simp only [exec_encoder_next_iff enc_unit, exec_decoder_next_iff dec_unit]
  constructor
  · rintro ⟨⟨e, a, enc_effect, rfl⟩, d, b, dec_effect, rfl⟩
    exact ⟨_, ⟨d, b, dec_effect, rfl⟩, e, a, enc_effect, rfl⟩
  · rintro ⟨⟨d, b, dec_effect, rfl⟩, e, a, enc_effect, rfl⟩
    exact ⟨_, ⟨e, a, enc_effect, rfl⟩, d, b, dec_effect, rfl⟩

/-- Settles O49: the encoder unit's part of the state depends on its own requests and the RESETs alone. -/
theorem decoderRequestsAreInvisibleToTheEncoder : Obligations.DecoderRequestsAreInvisibleToTheEncoder := by
  intro s t run
  obtain ⟨t', run', same⟩ :=
    encoderView_dependsOnlyOn.run (s' := s.setRequests (s.requests.filter actsOnEncoder)) rfl rfl rfl run
  obtain ⟨same_enc, same_response⟩ := Prod.mk.inj same
  exact ⟨t', run', same_enc, same_response⟩

/-- Settles O50: the decoder unit's part of the state depends on its own requests and the RESETs alone. -/
theorem encoderRequestsAreInvisibleToTheDecoder : Obligations.EncoderRequestsAreInvisibleToTheDecoder := by
  intro s t run
  obtain ⟨t', run', same⟩ :=
    decoderView_dependsOnlyOn.run (s' := s.setRequests (s.requests.filter actsOnDecoder)) rfl rfl rfl run
  obtain ⟨same_dec, same_response⟩ := Prod.mk.inj same
  exact ⟨t', run', same_dec, same_response⟩

end Sys2Proof.Machine
end

section
/-! Reads (R90 to R93), and when an operation completes (R96, R126). -/

namespace Sys2Proof.Machine

section
variable {s : State}

/-- An operation that does not complete is refused: there is no fault (R8). -/
theorem exec_refused_of_not_next {i : Instr} (stops : ¬ ∃ t, exec i s = .next t) : ∃ r, exec i s = .refused r := by
  cases h : exec i s with
  | next t => exact absurd ⟨t, h⟩ stops
  | fault r => nomatch r
  | refused r => exact ⟨r, rfl⟩

/-- DECODE completes exactly on twenty bytes, whatever they are (R88). -/
theorem exec_decode_completes_iff (l : List Byte) : (∃ t, exec (.decode l) s = .next t) ↔ l.length = 20 := by
  constructor
  · rintro ⟨t, completes⟩
    by_contra wrong_length
    rw [exec, execDecode, (frameOfBytes?_eq_none_iff l).mpr wrong_length] at completes
    cases completes
  · intro twenty
    obtain ⟨f, found⟩ := Option.ne_none_iff_exists'.mp (mt (frameOfBytes?_eq_none_iff l).mp (not_not_intro twenty))
    exact ⟨_, by rw [exec, execDecode, found]⟩

/-- READ_TXF completes exactly when its index is in range and the status is OK (R91): a frame is then held. -/
theorem exec_readTxf_completes_iff (inv : s.enc.Inv) (k : Nat) :
    (∃ t, exec (.readTxf k) s = .next t) ↔ k < 20 ∧ s.enc.status = .ok := by
  obtain ⟨ok_iff_held, -⟩ := inv
  simp only [exec_readTxf_next_iff, EncUnit.readTxf_ok_iff]
  constructor
  · rintro ⟨t, b, ⟨ok, f, -, byte⟩, -⟩
    obtain ⟨inside, -⟩ := Vector.getElem?_eq_some_iff.mp byte
    exact ⟨inside, ok⟩
  · rintro ⟨inside, ok⟩
    obtain ⟨f, held⟩ := Option.isSome_iff_exists.mp (ok_iff_held.mp ok)
    exact ⟨_, f[k], ⟨ok, f, held, Vector.getElem?_eq_getElem inside⟩, rfl⟩

/-- With status OK the decoder unit holds a packet (R24 item 2). -/
theorem DecUnit.eq_holding_of_ok {d : DecUnit} (inv : d.Inv) (ok : d.status = .ok) : ∃ p, d = DecUnit.holding p := by
  obtain ⟨status, _, _, _, _, _⟩ := d
  obtain rfl : status = .ok := ok
  simp only [DecUnit.Inv, true_iff, Option.isSome_iff_exists] at inv
  obtain ⟨⟨head, rfl⟩, ⟨head_class, rfl⟩, ⟨cmd, rfl⟩, ⟨cmd_class, rfl⟩, ⟨data, rfl⟩, -, -⟩ := inv
  exact ⟨⟨head, head_class, cmd, cmd_class, data⟩, rfl⟩

/-- In a held packet every field in range has a value to read, and no other field has (R93). -/
theorem DecUnit.holding_rxLatch_has_value_iff (p : Packet) (field : RxField) :
    (∃ v, (DecUnit.holding p).rxLatch field = .ok v) ↔ field.wf = true := by
  cases field with
  | data i => by_cases inside : i < 17 <;> simp [DecUnit.rxLatch, RxField.wf, latched, Except.map, inside]
  | _ => exact iff_of_true ⟨_, rfl⟩ rfl

/-- READ_RXP completes exactly when its field is in range and the status is OK (R93). -/
theorem exec_readRxp_completes_iff (inv : s.dec.Inv) (field : RxField) :
    (∃ t, exec (.readRxp field) s = .next t) ↔ field.wf = true ∧ s.dec.status = .ok := by
  simp only [exec_readRxp_next_iff, DecUnit.readRxp_ok_iff]
  have readable_iff (ok : s.dec.status = .ok) : (∃ v, s.dec.rxLatch field = .ok v) ↔ field.wf = true := by
    obtain ⟨p, held⟩ := DecUnit.eq_holding_of_ok inv ok
    rw [held]
    exact DecUnit.holding_rxLatch_has_value_iff p field
  constructor
  · rintro ⟨t, v, ⟨ok, read⟩, -⟩
    exact ⟨(readable_iff ok).mp ⟨v, read⟩, ok⟩
  · rintro ⟨inside, ok⟩
    obtain ⟨v, read⟩ := (readable_iff ok).mpr inside
    exact ⟨_, v, ⟨ok, read⟩, rfl⟩

/-- An operation completes exactly when the host meets its duty. -/
theorem exec_completes_iff_dutyMet (inv : s.Inv) (i : Instr) : (∃ t, exec i s = .next t) ↔ dutyMet i s = true := by
  obtain ⟨enc_inv, dec_inv⟩ := inv
  cases i with
  | decode l => simp [exec_decode_completes_iff, dutyMet, Instr.wf]
  | readTxf k => simp [exec_readTxf_completes_iff enc_inv, dutyMet, Instr.wf]
  | readRxp field => simp [exec_readRxp_completes_iff dec_inv, dutyMet, Instr.wf]
  | encode h c n p => exact iff_of_true ⟨_, exec_encode s p h c n⟩ rfl
  | readEncStatus | readDecStatus | reset | commandPower p k | commandBrightness p k | commandColor p k
  | commandSegment p k | requestPower p k | requestBrightness p k | requestColor p k | requestSegment p k =>
    exact iff_of_true ⟨_, rfl⟩ rfl

end

/-! ### The obligations -/

/-- Settles O36: a read's unit keeps its latches because the read only answers, and the other unit is left. -/
theorem readsWriteNoLatch : Obligations.ReadsWriteNoLatch := by
  rintro i s t (rfl | ⟨k, rfl⟩ | rfl | ⟨field, rfl⟩) h
  · rw [exec_readEncStatus] at h
    cases h
    exact ⟨rfl, rfl⟩
  · obtain ⟨b, -, rfl⟩ := (exec_readTxf_next_iff s k t).mp h
    exact ⟨rfl, rfl⟩
  · exact ⟨(exec_leaves_encoder rfl h).1, readDecStatus_leaves_dec h⟩
  · exact ⟨(exec_leaves_encoder rfl h).1, readRxp_leaves_dec h⟩

/-- Settles O51: completion is the duty, operation by operation, and what does not complete is refused. -/
theorem completesExactlyWhenTheDutyIsMet : Obligations.CompletesExactlyWhenTheDutyIsMet := by
  intro i s inv
  have completes_iff := exec_completes_iff_dutyMet inv i
  refine ⟨completes_iff, fun unmet => exec_refused_of_not_next fun completes => ?_⟩
  simp [completes_iff.mp completes] at unmet

end Sys2Proof.Machine
end

section
/-! The frame types as DECODE of a frame (R51, R81, log entry 6), the classes of bytes (R46, R47), and table words
served by the next step (log entry 7). -/

namespace Sys2Proof.Machine

/-! ### The frame types: each row of the table, presented to DECODE (R51, R81) -/

/-- The operation of a listed row receives the frame with the row's head and command byte. -/
theorem exec_listed_row {row : FrameRow} (listed : row ∈ frameRows) (p : Payload) (k : Byte) (s : State) :
    exec (row.instr p k) s = .next (s.finishDecode (receivedUnit (frameOf row.head row.cmd p k))) := by
  simp only [frameRows, List.mem_cons, List.not_mem_nil, or_false] at listed
  rcases listed with rfl | rfl | rfl | rfl | rfl | rfl | rfl | rfl
  · exact exec_commandPower s p k
  · exact exec_commandBrightness s p k
  · exact exec_commandColor s p k
  · exact exec_commandSegment s p k
  · exact exec_requestPower s p k
  · exact exec_requestBrightness s p k
  · exact exec_requestColor s p k
  · exact exec_requestSegment s p k

/-- DECODE of the bytes of a frame in wire order (R31, R81). -/
theorem exec_decode_wire_bytes (h c : Byte) (p : Payload) (k : Byte) (s : State) :
    exec (.decode ([h, c] ++ p.toList ++ [k])) s = .next (s.finishDecode (receivedUnit (frameOf h c p k))) := by
  rw [← frameOf_toList, exec_decode_frame]

/-- The operation of a listed row does what DECODE does with the row's two bytes, the payload and the checksum. -/
theorem exec_listed_row_eq_exec_decode {row : FrameRow} (listed : row ∈ frameRows) (p : Payload) (k : Byte)
    (s : State) : exec (row.instr p k) s = exec (.decode ([row.head, row.cmd] ++ p.toList ++ [k])) s := by
  rw [exec_listed_row listed, exec_decode_wire_bytes]

/-- The packet of a frame made of parts: those parts, and the classes of its first two bytes (R81). -/
@[simp] theorem packetOf_frameOf (h c : Byte) (p : Payload) (k : Byte) :
    packetOf (frameOf h c p k) = ⟨h, headClass h, c, cmdClass c, p⟩ := by
  simp [packetOf]

theorem DecUnit.failed_holdsNone : DecUnit.failed.holdsNone := ⟨rfl, rfl, rfl, rfl, rfl⟩

/-- A good checksum delivers the parts of the frame (R81). -/
theorem receivedUnit_frameOf_good {h c : Byte} {p : Payload} {k : Byte} (good : k = h ^^^ c ^^^ xorFold p.toList) :
    receivedUnit (frameOf h c p k) = DecUnit.holding ⟨h, headClass h, c, cmdClass c, p⟩ := by
  rw [receivedUnit_valid ((valid_frameOf_iff h c p k).mpr good), packetOf_frameOf]

/-- Any other checksum byte fails (R82). -/
theorem receivedUnit_frameOf_bad {h c : Byte} {p : Payload} {k : Byte} (bad : k ≠ h ^^^ c ^^^ xorFold p.toList) :
    receivedUnit (frameOf h c p k) = DecUnit.failed :=
  receivedUnit_invalid (Bool.eq_false_iff.mpr (mt (valid_frameOf_iff h c p k).mp bad))

/-- The operation of a listed row receives the row's two bytes, with the classes of R46 and R47. -/
theorem listed_row_receivesAs {row : FrameRow} (listed : row ∈ frameRows) :
    receivesAs row.instr row.head row.cmd (headClass row.head) (cmdClass row.cmd) := by
  intro p k s
  refine ⟨_, exec_listed_row listed p k s, State.finishDecode_enc .., ?_⟩
  split
  · next good => simp [receivedUnit_frameOf_good good]
  · next bad => simp [receivedUnit_frameOf_bad bad, DecUnit.failed_holdsNone]

/-! ### Table words (log entry 7) -/

/-- A table word is read as an operation exactly when the request it stands for decodes to that operation. -/
theorem decodeTableWord_eq_some_iff (nbits w : Nat) (i : Instr) :
    decodeTableWord nbits w = some i ↔ decode (tableRequest nbits w) = .ok i := by
  rw [decodeTableWord]
  cases decode (tableRequest nbits w) <;> simp [Except.toOption]

/-! ### The obligations -/

/-- Settles O7: the eight rows of the frame-type table, each the same reception as DECODE of its bytes. -/
theorem frameTypesMeanDecode : Obligations.FrameTypesMeanDecode := by
  intro p k s
  have row (j : Fin 8) := exec_listed_row_eq_exec_decode (List.getElem_mem (l := frameRows) j.isLt) p k s
  exact ⟨row 0, row 1, row 2, row 3, row 4, row 5, row 6, row 7⟩

/-- Settles O29: the eight rows of the frame-type table, the classes of whose bytes evaluate to those named. -/
theorem frameTypesAreReceived : Obligations.FrameTypesAreReceived := by
  have row (j : Fin 8) := listed_row_receivesAs (List.getElem_mem (l := frameRows) j.isLt)
  exact ⟨row 0, row 1, row 2, row 3, row 4, row 5, row 6, row 7⟩

/-- Settles O9: the presented word is the first waiting request, and taking it out again gives the state back. -/
theorem tableWordIsServedNext : Obligations.TableWordIsServedNext := by
  intro s nbits w i read
  have decoded := (decodeTableWord_eq_some_iff nbits w i).mp read
  have presented : (s.withFetchWord nbits w).requests = tableRequest nbits w :: s.requests := rfl
  have restored : (s.withFetchWord nbits w).setRequests s.requests = s := rfl
  rw [step_of_operation presented decoded, restored]

/-- Settles O26: the tables and the codes are the definitions with their constants written out, and the selectors'
wire bytes are looked up one by one. -/
theorem classesOfBytes : Obligations.ClassesOfBytes := by
  refine ⟨fun _ => rfl, fun _ => rfl, rfl, rfl, rfl, rfl, rfl, rfl, rfl, rfl, fun h => ?_, fun c => ?_⟩
  · cases h <;> decide
  · cases c <;> decide

end Sys2Proof.Machine
end

section
/-! The checksum: the XOR fold of byte sequences (R60, R63), validity of a frame (R61, R62), which changes of a valid
frame it detects (R64), and the checksum of an encoded frame. -/

namespace Sys2Proof.Machine

/-! ### The fold (R60, R63) -/

/-- The fold of the second part goes on from the fold of the first. -/
@[simp] theorem xorFold_append (s t : List Byte) : xorFold (s ++ t) = xorFold s ^^^ xorFold t := by
  rw [xorFold, List.foldl_append]
  exact foldl_xor_start t (xorFold s)

theorem xorFold_singleton (b : Byte) : xorFold [b] = b := by simp

/-- The fold of a front part that grows by one byte. -/
theorem xorFold_take_succ {l : List Byte} {n : Nat} (inside : n < l.length) :
    xorFold (l.take (n + 1)) = xorFold (l.take n) ^^^ l[n] := by
  rw [List.take_succ_eq_append_getElem inside, xorFold_append, xorFold_singleton]

/-- Exclusive-or does not care in which order two bytes are folded in. -/
theorem xorFold_perm {s t : List Byte} (perm : s.Perm t) : xorFold s = xorFold t :=
  perm.foldl_eq' (fun _ _ _ _ _ => by ac_rfl) _

/-- Padding contributes nothing to the fold, however much of it there is. -/
theorem xorFold_replicate_pad (n : Nat) : xorFold (List.replicate n Config.pad) = 0 := by
  induction n with
  | zero => rfl
  | succ n ih =>
    rw [List.replicate_succ, xorFold_cons, ih]
    rfl

/-- Two folds XORed are the fold of the bytes XORed place by place. -/
theorem xorFold_map_xor {ι : Type} (places : List ι) (f g : ι → Byte) :
    xorFold (places.map fun i => f i ^^^ g i) = xorFold (places.map f) ^^^ xorFold (places.map g) := by
  induction places with
  | nil => simp
  | cons i places ih =>
    simp only [List.map_cons, xorFold_cons, ih]
    ac_rfl

/-- A bit of the fold is set exactly when an odd number of the bytes have it set. -/
theorem getLsbD_xorFold (s : List Byte) (b : Nat) :
    (xorFold s).getLsbD b = true ↔ s.countP (fun byte => byte.getLsbD b) % 2 = 1 := by
  induction s with
  | nil => simp
  | cons byte s ih =>
    cases bit : byte.getLsbD b with
    | false => simp [bit, ih]
    | true =>
      have odd_of_even (n : Nat) : ¬ n % 2 = 1 ↔ (n + 1) % 2 = 1 := by omega
      simp [bit, ← Bool.not_eq_true, ih, odd_of_even]

/-! ### Validity (R61, R62) -/

/-- The checksum of a frame, byte by byte. -/
theorem csum19_toList (f : Frame) : csum19 f.toList = xorOfNineteen f := by
  simp [csum19, Config.frameLen, xorFold_take_succ, xorOfNineteen]

/-- The fold of all twenty bytes is the checksum XORed with byte 19. -/
theorem xorFold_toList (f : Frame) : xorFold f.toList = csum19 f.toList ^^^ f[19] := by
  have last := xorFold_take_succ (l := f.toList) (n := 19) (by simp)
  simpa [csum19, List.take_of_length_le] using last

/-- Two bytes XOR to zero exactly when they are equal, here byte 19 and the checksum. -/
theorem valid_iff_xorFold_eq_zero (f : Frame) : valid f = true ↔ xorFold f.toList = 0 := by
  rw [valid_iff, xorFold_toList, eq_comm]
  exact BitVec.xor_eq_zero_iff.symm

/-- A frame is invalid exactly when the fold of its bytes has a bit set. -/
theorem invalid_iff_bit_of_xorFold (f : Frame) :
    valid f = false ↔ ∃ b, b < 8 ∧ (xorFold f.toList).getLsbD b = true := by
  rw [← Bool.not_eq_true, valid_iff_xorFold_eq_zero, BitVec.eq_of_getLsbD_eq_iff]
  simp

/-! ### Detection (R64) -/

/-- The bytes of a frame, index by index. -/
theorem toList_eq_map_finRange (f : Frame) : f.toList = (List.finRange Config.frameLen).map fun i => f[i] :=
  List.ext_getElem (by simp) (by simp)

/-- The folds of two frames differ at a bit position exactly when an odd number of their bytes differ there. -/
theorem getLsbD_xor_of_folds (f g : Frame) (b : Nat) :
    (xorFold f.toList ^^^ xorFold g.toList).getLsbD b = true ↔ flipsAt f g b % 2 = 1 := by
  rw [toList_eq_map_finRange f, toList_eq_map_finRange g, ← xorFold_map_xor, getLsbD_xorFold, List.countP_map]
  simp [flipsAt, Function.comp_def]

/-- A frame and the frame with one bit flipped differ at that bit position in that byte alone. -/
theorem flipsAt_flipBit (f : Frame) (i : Fin Config.frameLen) (b : Fin 8) : flipsAt f (flipBit f i b) b = 1 := by
  have differs_iff (j : Fin Config.frameLen) :
      (f[j].getLsbD b != (flipBit f i b)[j].getLsbD b) = (j == i) := by
    by_cases same : j = i
    · subst same
      simp [flipBit]
    · have elsewhere : i.val ≠ j.val := fun h => same (Fin.ext h.symm)
      simp [flipBit, same, Vector.getElem_set_ne, elsewhere]
  simp only [flipsAt, differs_iff]
  exact List.count_finRange i

/-! ### The checksum of an encoded frame (R43, R71) -/

/-- The payload field ENCODE assembles: the packet's own bytes, then padding (R43). -/
theorem padPayload_toList (n : PayloadLen) (p : Payload) :
    (padPayload n p).toList = p.toList.take n.toNat ++ List.replicate (17 - n.toNat) Config.pad := by
  apply List.ext_getElem
  · simp [Config.payloadMax]
    omega
  · intro i hi _
    have inside : i < 17 := by simpa using hi
    by_cases own : i < n.toNat
    · simp [padPayload, own, inside, Config.payloadMax]
    · simp [padPayload, List.getElem_append, own, Config.payloadMax]

/-- Byte 19 of a sealed frame (R44). -/
theorem sealFrame_checksum (h c : Byte) (p : Payload) : (sealFrame h c p)[19] = h ^^^ c ^^^ xorFold p.toList := by
  have sealed := valid_sealFrame h c p
  rw [sealFrame, valid_frameOf_iff] at sealed
  rw [sealFrame, frameOf_checksum, sealed]

/-! ### The obligations -/

/-- Settles O10: the start value is the loop's own, and a byte appended is folded in last (`xorFold_append`). -/
theorem xorFoldIsTheLoop : Obligations.XorFoldIsTheLoop := by
  refine ⟨xorFold_nil, xorFold_singleton, fun s b => ?_⟩
  rw [xorFold_append, xorFold_singleton]

/-- Settles O11: the fold of a sequence cancels against itself. -/
theorem xorFoldOfConcatenation : Obligations.XorFoldOfConcatenation := by
  refine ⟨xorFold_append, fun s => ?_⟩
  rw [xorFold_append, xorFold_singleton]
  exact BitVec.xor_self

/-- Settles O12: exclusive-or is commutative and associative, so the fold is the same along every permutation
(`xorFold_perm`). -/
theorem xorFoldIgnoresOrder : Obligations.XorFoldIgnoresOrder :=
  fun _ _ => xorFold_perm

/-- Settles O13: what follows the nineteen bytes is not read (`csum19_append`), and their fold takes them in one by
one. -/
theorem checksumIsXorOfNineteenBytes : Obligations.ChecksumIsXorOfNineteenBytes := by
  intro v rest
  have all_taken : v.toList.take 19 = v.toList := List.take_of_length_le (by simp)
  rw [csum19_append rest (by simp), ← all_taken]
  simp [xorFold_take_succ]

/-- Settles O14: `valid` compares byte 19 with the checksum, which is the XOR of bytes 0 to 18 (`csum19_toList`); the
fold of all twenty bytes is the checksum XORed with byte 19, zero exactly when the two are equal. -/
theorem validityOfAFrame : Obligations.ValidityOfAFrame := by
  intro f
  refine ⟨?_, valid_iff_xorFold_eq_zero f⟩
  rw [valid_iff, csum19_toList]

/-- Settles O15: the fold of a valid frame is zero, so the fold of the other frame is the difference of the two, whose
bits are the parities of the flips. -/
theorem detectionIsOddParity : Obligations.DetectionIsOddParity := by
  intro f g valid_f
  have fold_f : xorFold f.toList = 0 := (valid_iff_xorFold_eq_zero f).mp valid_f
  have difference : xorFold f.toList ^^^ xorFold g.toList = xorFold g.toList := by
    rw [fold_f]
    exact BitVec.zero_xor
  simp only [invalid_iff_bit_of_xorFold, ← getLsbD_xor_of_folds, difference]

/-- Settles O16: one flip is an odd number of flips, and DECODE of an invalid frame fails. -/
theorem singleBitFlipIsRejected : Obligations.SingleBitFlipIsRejected := by
  intro f i b s valid_f
  have invalid : valid (flipBit f i b) = false :=
    (detectionIsOddParity f _ valid_f).mpr ⟨b, b.isLt, by rw [flipsAt_flipBit]⟩
  refine ⟨_, exec_decode_frame s _, ?_⟩
  rw [State.finishDecode_dec, receivedUnit_invalid invalid]
  exact ⟨rfl, DecUnit.failed_holdsNone⟩

/-- Settles O17: the checksum covers the packet's own bytes and the padding, which contributes nothing. -/
theorem encodedChecksumIgnoresPadding : Obligations.EncodedChecksumIgnoresPadding := by
  intro h c n p s fits
  have unpadded : xorFold (padPayload n p).toList = xorFold (p.toList.take n.toNat) := by
    rw [padPayload_toList, xorFold_append, xorFold_replicate_pad]
    exact BitVec.xor_zero
  refine ⟨_, buildFrame h c n p, exec_encode s p h c n, ?_, ?_⟩
  · rw [State.finishEncode_enc, encodedUnit_ok h c p fits, EncUnit.holding_txf]
  · rw [buildFrame, sealFrame_checksum, unpadded]

end Sys2Proof.Machine
end

section
/-! ENCODE (R70 to R75): the bytes of the frame it builds, when it raises `EncodingError`, and what its result
depends on. -/

namespace Sys2Proof.Machine

/-! ### The wire bytes of the selectors (R49) -/

/-- The two head selectors have different wire bytes. -/
theorem headByte_injective : Function.Injective headByte := by
  intro h h'
  cases h <;> cases h' <;> decide

/-- The four command selectors have different wire bytes. -/
theorem cmdByte_injective : Function.Injective cmdByte := by
  intro c c'
  cases c <;> cases c' <;> decide

/-! ### The payload field (R43, R73) -/

/-- Byte `i` of the payload field: the operand's byte below `plen`, padding from there up. -/
@[simp] theorem padPayload_getElem (n : PayloadLen) (p : Payload) (i : Nat) (hi : i < 17) :
    (padPayload n p)[i] = if i < n.toNat then p[i] else 0x00 := by
  simp [padPayload, Config.pad]

/-- Operands that agree below `plen` have the same payload field. -/
theorem padPayload_congr {n : PayloadLen} {p q : Payload}
    (agree : ∀ (i : Nat) (hi : i < 17), i < n.toNat → p[i] = q[i]) : padPayload n p = padPayload n q := by
  apply Vector.ext
  intro i hi
  rw [padPayload_getElem n p i hi, padPayload_getElem n q i hi]
  split
  · exact agree i hi ‹_›
  · rfl

/-! ### The frame (R71) -/

section
variable (h : Head) (c : Cmd) (n : PayloadLen) (p : Payload)

@[simp] theorem buildFrame_head : (buildFrame h c n p)[0] = headByte h := frameOf_head ..

@[simp] theorem buildFrame_cmd : (buildFrame h c n p)[1] = cmdByte c := frameOf_cmd ..

@[simp] theorem framePayload_buildFrame : framePayload (buildFrame h c n p) = padPayload n p := framePayload_frameOf ..

/-- Frame byte `2 + i` is byte `i` of the payload field. -/
theorem buildFrame_payload_byte (i : Nat) (hi : i < 17) :
    (buildFrame h c n p)[i + 2]? = some (if i < n.toNat then p[i] else 0x00) := by
  have inside : i + 2 < 20 := by omega
  rw [Vector.getElem?_eq_getElem inside, ← framePayload_getElem _ i hi, framePayload_buildFrame,
    padPayload_getElem n p i hi]

/-- Byte 19 is the XOR of bytes 0 to 18. -/
theorem buildFrame_checksum : (buildFrame h c n p)[19] = xorOfNineteen (buildFrame h c n p) := by
  rw [← csum19_toList]
  exact (valid_iff _).mp (valid_sealFrame ..)

end

/-- The frame determines the head, the command and the payload field it was built from (R75 item 5). -/
theorem buildFrame_inj {h h' : Head} {c c' : Cmd} {n n' : PayloadLen} {p p' : Payload}
    (same : buildFrame h c n p = buildFrame h' c' n' p') :
    h = h' ∧ c = c' ∧ padPayload n p = padPayload n' p' := by
  refine ⟨headByte_injective ?_, cmdByte_injective ?_, ?_⟩
  · rw [← buildFrame_head h c n p, same, buildFrame_head]
  · rw [← buildFrame_cmd h c n p, same, buildFrame_cmd]
  · rw [← framePayload_buildFrame h c n p, same, framePayload_buildFrame]

/-! ### The latches ENCODE leaves (R71, R72) -/

section
variable (h : Head) (c : Cmd) (n : PayloadLen) (p : Payload)

theorem encodedUnit_status : (encodedUnit h c n p).status = if 17 < n.toNat then .encodingError else .ok := by
  split
  · rw [encodedUnit_failed h c p ‹_›, EncUnit.failed_status]
  · rw [encodedUnit_ok h c p (by omega), EncUnit.holding_status]

theorem encodedUnit_txf_eq_some_iff (f : Frame) :
    (encodedUnit h c n p).txf = some f ↔ n.toNat ≤ 17 ∧ buildFrame h c n p = f := by
  rcases Nat.lt_or_ge 17 n.toNat with long | fits
  · simp [encodedUnit_failed h c p long, long]
  · simp [encodedUnit_ok h c p fits, fits]

end

/-! ### The obligations -/

/-- Settles O18: ENCODE's latches are the failed ones above seventeen bytes and hold the built frame otherwise, whose
bytes are those of the `buildFrame` lemmas. -/
theorem encodeBuildsTheFrame : Obligations.EncodeBuildsTheFrame := by
  intro h c n p s
  refine ⟨_, exec_encode s p h c n, rfl, ?_⟩
  rw [State.finishEncode_enc, State.finishEncode_encResponse]
  split
  case isTrue long =>
    rw [encodedUnit_failed h c p long]
    exact ⟨rfl, rfl, rfl⟩
  case isFalse short =>
    rw [encodedUnit_ok h c p (by omega)]
    refine ⟨buildFrame h c n p, rfl, rfl, rfl, ?_, ?_, buildFrame_payload_byte h c n p, buildFrame_checksum h c n p⟩
    · rw [buildFrame_head]
      cases h <;> rfl
    · rw [buildFrame_cmd]
      cases c <;> rfl

/-- Settles O20: from `plen` up the payload field is padding, and the operand lines reach the latches through the
payload field alone (`padPayload_congr`). -/
theorem staleBytesNeverReachTheFrame : Obligations.StaleBytesNeverReachTheFrame := by
  refine ⟨fun h c n p s fits => ?_, fun h c n p q s agree => ?_⟩
  · refine ⟨_, buildFrame h c n p, exec_encode s p h c n, ?_, fun i stale hi => ?_⟩
    · exact (encodedUnit_txf_eq_some_iff ..).mpr ⟨fits, rfl⟩
    · rw [buildFrame_payload_byte h c n p i hi, if_neg (by omega)]
  · rw [exec_encode, exec_encode, encodedUnit, encodedUnit, buildFrame, buildFrame, padPayload_congr agree]

/-- Settles O22: a frame in `TXF` after ENCODE is the one built from its operands, and it determines their wire
bytes and the payload field (`buildFrame_inj`). -/
theorem encodeIsInjective : Obligations.EncodeIsInjective := by
  intro h h' c c' n n' p p' s s' t t' f run run' held held'
  obtain rfl := Host.Outcome.next.inj ((exec_encode s p h c n).symm.trans run)
  obtain rfl := Host.Outcome.next.inj ((exec_encode s' p' h' c' n').symm.trans run')
  obtain ⟨-, built⟩ := (encodedUnit_txf_eq_some_iff ..).mp held
  obtain ⟨-, built'⟩ := (encodedUnit_txf_eq_some_iff ..).mp held'
  obtain ⟨same_head, same_cmd, same_payload⟩ := buildFrame_inj (built.trans built'.symm)
  refine ⟨same_head, same_cmd, fun i hi => ?_⟩
  rw [← padPayload_getElem n p i hi, same_payload, padPayload_getElem n' p' i hi]

/-- Settles O19: the status depends on `plen > 17` alone (`encodedUnit_status`), and above it the failed latches hold
no frame. -/
theorem encodingErrorExactlyWhenTooLong : Obligations.EncodingErrorExactlyWhenTooLong := by
  intro h c n p s
  refine ⟨_, exec_encode s p h c n, ?_, ?_, fun long => ?_⟩
  · simp [encodedUnit_status]
  · simp [encodedUnit_status]
  · rw [State.finishEncode_enc, State.finishEncode_encResponse, encodedUnit_failed h c p long]
    exact ⟨rfl, rfl, rfl, rfl⟩

/-- Settles O21: from every state ENCODE finishes with the same latches, and its response is read from them. -/
theorem encodeDependsOnItsOperandsOnly : Obligations.EncodeDependsOnItsOperandsOnly := by
  intro h c n p s s'
  exact ⟨_, _, exec_encode s p h c n, exec_encode s' p h c n, rfl, rfl⟩

end Sys2Proof.Machine
end

section
/-! DECODE (R80 to R88): what it delivers, when it raises `ChecksumError`, what its result depends on, and the round
trip with ENCODE in both directions (R85). -/

namespace Sys2Proof.Machine

/-! ### Classes and codes (R46, R47, R49) -/

/-- A byte that is no selector's wire byte is of the unknown head class (R46). -/
theorem headClass_of_undefined {b : Byte} (undefined : ∀ h, b ≠ headByte h) : headClass b = .unknown :=
  (if_neg (undefined .command)).trans (if_neg (undefined .request))

/-- A byte that is no selector's wire byte is of the unknown command class (R47). -/
theorem cmdClass_of_undefined {b : Byte} (undefined : ∀ c, b ≠ cmdByte c) : cmdClass b = .unknown :=
  (if_neg (undefined .power)).trans <| (if_neg (undefined .brightness)).trans <|
    (if_neg (undefined .color)).trans (if_neg (undefined .segment))

/-- The head class code 2 marks exactly the bytes that are no defined head byte (R46, R83). -/
theorem headClass_code_unknown_iff (b : Byte) : (headClass b).code = 2 ↔ b ≠ 0x33 ∧ b ≠ 0xAA := by
  by_cases defined : ∃ h, b = headByte h
  · obtain ⟨h, rfl⟩ := defined
    cases h <;> decide
  · have undefined := not_exists.mp defined
    rw [headClass_of_undefined undefined]
    exact iff_of_true rfl ⟨undefined .command, undefined .request⟩

/-- The command class code 4 marks exactly the bytes that are no defined command byte (R47, R83). -/
theorem cmdClass_code_unknown_iff (b : Byte) :
    (cmdClass b).code = 4 ↔ b ≠ 0x01 ∧ b ≠ 0x04 ∧ b ≠ 0x05 ∧ b ≠ 0xA5 := by
  by_cases defined : ∃ c, b = cmdByte c
  · obtain ⟨c, rfl⟩ := defined
    cases c <;> decide
  · have undefined := not_exists.mp defined
    rw [cmdClass_of_undefined undefined]
    exact iff_of_true rfl ⟨undefined .power, undefined .brightness, undefined .color, undefined .segment⟩

/-- The class of a head selector's wire byte has the selector's number (R46, R49). -/
theorem headClass_headByte_code (h : Head) : (headClass (headByte h)).code.toNat = h.sel.toNat := by
  obtain ⟨-, -, -, -, -, -, -, -, -, -, code, -⟩ := classesOfBytes
  exact code h

/-- The class of a command selector's wire byte has the selector's number (R47, R49). -/
theorem cmdClass_cmdByte_code (c : Cmd) : (cmdClass (cmdByte c)).code.toNat = c.sel.toNat := by
  obtain ⟨-, -, -, -, -, -, -, -, -, -, -, code⟩ := classesOfBytes
  exact code c

/-- A byte whose head class has a selector's number is that selector's wire byte. -/
theorem headByte_eq_of_class_code {b : Byte} {h : Head} (known : (headClass b).code.toNat = h.sel.toNat) :
    headByte h = b := by
  by_cases defined : ∃ h', b = headByte h'
  · obtain ⟨h', rfl⟩ := defined
    rw [headClass_headByte_code] at known
    rw [← Head.ofSel_sel h, ← BitVec.eq_of_toNat_eq known, Head.ofSel_sel]
  · rw [headClass_of_undefined (not_exists.mp defined)] at known
    have below : h.sel.toNat < 2 := h.sel.isLt
    exact absurd known (Nat.ne_of_gt below)

/-- A byte whose command class has a selector's number is that selector's wire byte. -/
theorem cmdByte_eq_of_class_code {b : Byte} {c : Cmd} (known : (cmdClass b).code.toNat = c.sel.toNat) :
    cmdByte c = b := by
  by_cases defined : ∃ c', b = cmdByte c'
  · obtain ⟨c', rfl⟩ := defined
    rw [cmdClass_cmdByte_code] at known
    rw [← Cmd.ofSel_sel c, ← BitVec.eq_of_toNat_eq known, Cmd.ofSel_sel]
  · rw [cmdClass_of_undefined (not_exists.mp defined)] at known
    have below : c.sel.toNat < 4 := c.sel.isLt
    exact absurd known (Nat.ne_of_gt below)

/-! ### The latches DECODE leaves (R81, R82) -/

theorem receivedUnit_status_ok_iff (f : Frame) : (receivedUnit f).status = .ok ↔ valid f = true := by
  cases good : valid f <;> simp [receivedUnit, good]

/-- `ChecksumError` is DECODE's only error (R82). -/
theorem receivedUnit_status_checksumError_iff (f : Frame) :
    (receivedUnit f).status = .checksumError ↔ valid f = false := by
  cases good : valid f <;> simp [receivedUnit, good]

/-- The frame ENCODE built delivers the wire bytes of its selectors, their classes and its payload field. -/
theorem receivedUnit_buildFrame (h : Head) (c : Cmd) (n : PayloadLen) (p : Payload) :
    receivedUnit (buildFrame h c n p) = DecUnit.holding
      ⟨headByte h, headClass (headByte h), cmdByte c, cmdClass (cmdByte c), padPayload n p⟩ :=
  (receivedUnit_valid (valid_sealFrame ..)).trans (congrArg DecUnit.holding (packetOf_frameOf ..))

/-! ### Re-encoding a received frame (R85) -/

/-- A valid frame is its own first nineteen bytes sealed with their checksum. -/
theorem sealFrame_fields {f : Frame} (good : valid f = true) : sealFrame f[0] f[1] (framePayload f) = f := by
  have checksum : f[19] = f[0] ^^^ f[1] ^^^ xorFold (framePayload f).toList := by
    rwa [← valid_frameOf_iff, frameOf_fields]
  calc sealFrame f[0] f[1] (framePayload f)
      = frameOf f[0] f[1] (framePayload f) (sealFrame f[0] f[1] (framePayload f))[19] := by
        rw [sealFrame, frameOf_checksum]
    _ = f := by rw [sealFrame_checksum, ← checksum, frameOf_fields]

/-- A payload of seventeen bytes fills the field: nothing is padded (R43). -/
theorem padPayload_full (p : Payload) : padPayload 17 p = p := by
  apply Vector.ext
  intro i hi
  rw [padPayload_getElem 17 p i hi]
  exact if_pos hi

/-! ### The obligations -/

/-- Settles O30: ENCODE leaves the frame built from its operands, which is sealed with its checksum, so DECODE delivers
its fields (`receivedUnit_buildFrame`); the classes of the wire bytes have the selectors' numbers. -/
theorem roundTripThroughTheCodec : Obligations.RoundTripThroughTheCodec := by
  intro h c n p s s' fits
  refine ⟨_, buildFrame h c n p, _, headClass (headByte h), cmdClass (cmdByte c), padPayload n p,
    exec_encode s p h c n, (encodedUnit_txf_eq_some_iff ..).mpr ⟨fits, rfl⟩, exec_decode_frame s' _, ?_⟩
  rw [State.finishDecode_dec, receivedUnit_buildFrame]
  exact ⟨rfl, rfl, rfl, headClass_headByte_code h, rfl, rfl, cmdClass_cmdByte_code c, rfl, padPayload_getElem n p⟩

/-- Settles O23: the latches are those of `receivedUnit`, which holds the frame's packet on a good checksum and is the
failed unit otherwise. -/
theorem decodeDeliversOrRejects : Obligations.DecodeDeliversOrRejects := by
  intro f s
  refine ⟨_, exec_decode_frame s f, rfl, ?_⟩
  rw [State.finishDecode_dec, State.finishDecode_decResponse]
  split
  case isTrue good =>
    rw [receivedUnit_valid ((valid_iff f).mpr good)]
    refine ⟨framePayload f, rfl, rfl, rfl, rfl, rfl, rfl, fun i hi => ?_, rfl⟩
    have inside : i + 2 < 20 := by omega
    rw [framePayload_getElem f i hi, Vector.getElem?_eq_getElem inside]
  case isFalse bad =>
    rw [receivedUnit_invalid (Bool.eq_false_iff.mpr (mt (valid_iff f).mp bad))]
    exact ⟨rfl, DecUnit.failed_holdsNone, rfl⟩

/-- Settles O24: the status tells validity, which is byte 19 being the XOR of the others (`validityOfAFrame`); after the
error the latches are the failed ones, and the next DECODE's latches depend on its own frame alone. -/
theorem checksumErrorExactlyOnMismatch : Obligations.ChecksumErrorExactlyOnMismatch := by
  intro f s
  obtain ⟨valid_iff_sum, -⟩ := validityOfAFrame f
  have invalid_iff_mismatch : valid f = false ↔ f[19] ≠ xorOfNineteen f := by
    rw [← Bool.not_eq_true, valid_iff_sum]
  refine ⟨_, exec_decode_frame s f, (receivedUnit_status_checksumError_iff f).trans invalid_iff_mismatch,
    (receivedUnit_status_ok_iff f).trans valid_iff_sum, fun mismatch => ?_⟩
  rw [receivedUnit_invalid (invalid_iff_mismatch.mpr mismatch)]
  exact ⟨rfl, DecUnit.failed_holdsNone, rfl, rfl,
    fun g => ⟨_, _, exec_decode_frame _ g, exec_decode_frame s g, rfl, rfl⟩⟩

/-- Settles O27: the bytes are those of a frame with its checksum, so its parts are delivered whatever they are, and the
classes of bytes 0 and 1 have the codes for unknown exactly where they are no code point. -/
theorem unknownBytesAreDelivered : Obligations.UnknownBytesAreDelivered := by
  intro b c p s
  refine ⟨_, headClass b, cmdClass c, exec_decode_wire_bytes b c p _ s, ?_⟩
  rw [State.finishDecode_dec, receivedUnit_frameOf_good rfl]
  exact ⟨rfl, rfl, rfl, rfl, rfl, headClass_code_unknown_iff b, cmdClass_code_unknown_iff c⟩

/-- Settles O31: status OK means the frame is valid, known classes mean its bytes 0 and 1 are the selectors' wire bytes,
and a full payload is not padded; so ENCODE seals the frame's own fields, which gives the frame (`sealFrame_fields`). -/
theorem reEncodingRestoresTheFrame : Obligations.ReEncodingRestoresTheFrame := by
  intro f h c p hc cc s s' t run ok held_head head_code held_cmd cmd_code held_data
  obtain rfl := Host.Outcome.next.inj ((exec_decode_frame s f).symm.trans run)
  have good : valid f = true := (receivedUnit_status_ok_iff f).mp ok
  rw [State.finishDecode_dec, receivedUnit_valid good] at held_head held_cmd held_data
  obtain rfl : headClass f[0] = hc := Option.some.inj held_head
  obtain rfl : cmdClass f[1] = cc := Option.some.inj held_cmd
  obtain rfl : framePayload f = p := Option.some.inj held_data
  have rebuilt : buildFrame h c 17 (framePayload f) = f := by
    rw [buildFrame, headByte_eq_of_class_code head_code, cmdByte_eq_of_class_code cmd_code, padPayload_full,
      sealFrame_fields good]
  exact ⟨_, exec_encode s' _ h c 17, (encodedUnit_txf_eq_some_iff ..).mpr ⟨by decide, rebuilt⟩⟩

/-- Settles O25: such a sequence is no frame, and both the decoder port and DECODE ask for one. -/
theorem wrongLengthIsRefused : Obligations.WrongLengthIsRefused := by
  intro l s wrong_length
  have no_frame := (frameOfBytes?_eq_none_iff l).mpr wrong_length
  exact ⟨by rw [decode, no_frame], by rw [exec, execDecode, no_frame]⟩

/-- Settles O28: from every state DECODE finishes with the same latches, and its response is read from them. -/
theorem decodeDependsOnItsOperandOnly : Obligations.DecodeDependsOnItsOperandOnly := by
  intro f s s'
  exact ⟨_, _, exec_decode_frame s f, exec_decode_frame s' f, rfl, rfl⟩

end Sys2Proof.Machine
end

section
/-! What each read returns and when it is refused, the reads beside the responses of ENCODE and DECODE (R90 to R94), and
how runs end (R97). -/

namespace Sys2Proof.Machine

/-! ### READ_TXF (R91) -/

section
variable {s t : State} {i : Nat}

/-- From a held frame READ_TXF returns the byte asked for. -/
theorem exec_readTxf_of_held {f : Frame} (ok : s.enc.status = .ok) (held : s.enc.txf = some f) (inside : i < 20) :
    exec (.readTxf i) s = .next (s.setEncResponse (.txf f[i])) :=
  (exec_readTxf_next_iff ..).mpr
    ⟨f[i], (EncUnit.readTxf_ok_iff ..).mpr ⟨ok, f, held, Vector.getElem?_eq_getElem inside⟩, rfl⟩

theorem exec_readTxf_of_not_ok (not_ok : s.enc.status ≠ .ok) : exec (.readTxf i) s = .refused .txfNone := by
  simp [exec, execReadTxf, EncUnit.readTxf, not_ok]

/-- READ_TXF completes on an index in range only, in any state. -/
theorem index_lt_of_exec_readTxf (h : exec (.readTxf i) s = .next t) : i < 20 := by
  obtain ⟨b, read, -⟩ := (exec_readTxf_next_iff s i t).mp h
  obtain ⟨-, f, -, byte⟩ := (EncUnit.readTxf_ok_iff s.enc i b).mp read
  exact (Vector.getElem?_eq_some_iff.mp byte).1

end

/-! ### READ_RXP (R93) -/

section
variable {s t : State} {field : RxField}

/-- With status OK, READ_RXP returns what the named latch holds. -/
theorem exec_readRxp_of_latch {v : RxValue} (ok : s.dec.status = .ok) (read : s.dec.rxLatch field = .ok v) :
    exec (.readRxp field) s = .next (s.setDecResponse (.rxp v)) :=
  (exec_readRxp_next_iff ..).mpr ⟨v, (DecUnit.readRxp_ok_iff ..).mpr ⟨ok, read⟩, rfl⟩

theorem exec_readRxp_of_not_ok (not_ok : s.dec.status ≠ .ok) : exec (.readRxp field) s = .refused .rxNone := by
  simp [exec, execReadRxp, DecUnit.readRxp, not_ok]

theorem DecUnit.rxLatch_data_past_end (d : DecUnit) {i : Nat} (past : 17 ≤ i) :
    d.rxLatch (.data i) = .error (.rejected .rxDataIndex) :=
  dif_neg (Nat.not_lt.mpr past)

/-- READ_RXP completes on a `DATA` index in range only, in any state. -/
theorem index_lt_of_exec_readRxp {i : Nat} (h : exec (.readRxp (.data i)) s = .next t) : i < 17 := by
  obtain ⟨v, read, -⟩ := (exec_readRxp_next_iff s (.data i) t).mp h
  obtain ⟨-, latch⟩ := (DecUnit.readRxp_ok_iff s.dec (.data i) v).mp read
  by_contra past
  rw [DecUnit.rxLatch_data_past_end _ (Nat.not_lt.mp past)] at latch
  cases latch

end

/-! ### The latches of a held packet (R93) -/

section
variable (d : DecUnit) (p : Packet)

theorem DecUnit.holding_rxLatch_head : (DecUnit.holding p).rxLatch .head = .ok (.head p.head) := rfl
theorem DecUnit.holding_rxLatch_headClass :
    (DecUnit.holding p).rxLatch .headClass = .ok (.headClass p.headClass.code) := rfl
theorem DecUnit.holding_rxLatch_cmd : (DecUnit.holding p).rxLatch .cmd = .ok (.cmd p.cmd) := rfl
theorem DecUnit.holding_rxLatch_cmdClass :
    (DecUnit.holding p).rxLatch .cmdClass = .ok (.cmdClass p.cmdClass.code) := rfl
theorem DecUnit.holding_rxLatch_data {i : Nat} (inside : i < 17) :
    (DecUnit.holding p).rxLatch (.data i) = .ok (.data p.data[i]) :=
  dif_pos inside

theorem DecUnit.eq_holding_iff : d = DecUnit.holding p ↔
    d.status = .ok ∧ d.rxHead = some p.head ∧ d.rxHeadClass = some p.headClass ∧ d.rxCmd = some p.cmd ∧
      d.rxCmdClass = some p.cmdClass ∧ d.rxData = some p.data := by
  cases d
  simp [DecUnit.holding]

theorem DecUnit.packet_eq_some_iff : d.packet = some p ↔
    d.rxHead = some p.head ∧ d.rxHeadClass = some p.headClass ∧ d.rxCmd = some p.cmd ∧
      d.rxCmdClass = some p.cmdClass ∧ d.rxData = some p.data := by
  unfold DecUnit.packet
  split
  · next rx_head rx_head_class rx_cmd rx_cmd_class rx_data =>
    cases p
    simp [rx_head, rx_head_class, rx_cmd, rx_cmd_class, rx_data]
  · next one_missing =>
    refine iff_of_false (by simp) ?_
    rintro ⟨rx_head, rx_head_class, rx_cmd, rx_cmd_class, rx_data⟩
    exact one_missing _ _ _ _ _ rx_head rx_head_class rx_cmd rx_cmd_class rx_data

end

/-! ### The responses beside the latches (R94) -/

/-- A response of ENCODE that carries a frame is read from a unit that holds it with status OK, and only from that. -/
theorem EncUnit.response_eq_ok_iff (e : EncUnit) (f : Frame) :
    e.response = .encode .ok (some f) ↔ e.status = .ok ∧ e.txf = some f := by
  by_cases ok : e.status = .ok <;> simp [EncUnit.response, ok]

/-- A response of DECODE that carries a packet is read from a unit that holds it with status OK, and only from that. -/
theorem DecUnit.response_eq_ok_iff (d : DecUnit) (p : Packet) :
    d.response = .decode .ok (some p) ↔ d = DecUnit.holding p := by
  rw [DecUnit.eq_holding_iff, ← DecUnit.packet_eq_some_iff]
  by_cases ok : d.status = .ok <;> simp [DecUnit.response, ok]

theorem exec_encode_response {h : Head} {c : Cmd} {n : PayloadLen} {p : Payload} {s t : State}
    (run : exec (.encode h c n p) s = .next t) : t.encResponse = t.enc.response := by
  rw [exec_encode] at run
  cases run
  rfl

theorem exec_decode_response {l : List Byte} {s t : State} (run : exec (.decode l) s = .next t) :
    t.decResponse = t.dec.response := by
  obtain ⟨d, r, effect, rfl⟩ := (exec_decoder_next_iff rfl s t).mp run
  obtain ⟨f, -, result⟩ := Option.map_eq_some_iff.mp effect
  cases result
  rfl

/-! ### The encoder's latches along operations that do not write them (R13, R14) -/

theorem issue_keeps_enc {js : List Instr} {s u : State}
    (no_writer : ∀ j ∈ js, j ≠ .reset ∧ ∀ h c n p, j ≠ .encode h c n p) (run : issue js s = .next u) : u.enc = s.enc := by
  induction js generalizing s with
  | nil =>
    cases run
    rfl
  | cons j rest ih =>
    obtain ⟨m, served, run_rest⟩ := (issue_cons_next_iff j rest s u).mp run
    obtain ⟨⟨not_reset, not_encode⟩, rest_no_writer⟩ := List.forall_mem_cons.mp no_writer
    have unchanged : m.enc = s.enc := by
      by_contra changed
      rcases writes_enc_cases served changed with reset | ⟨h, c, n, p, encode⟩
      · exact not_reset reset
      · exact not_encode h c n p encode
    exact (ih rest_no_writer run_rest).trans unchanged

/-! ### Runs: one request a step, and how they end (R97) -/

/-- A step that completes serves the first request, if there is one, and no other. -/
theorem step_requests {s t : State} (h : step s = .next t) : t.requests = s.requests.tail := by
  rcases step_cases h with ⟨none_waiting, rfl⟩ | ⟨r, rest, i, waiting, -, served⟩
  · simp [none_waiting]
  · rw [exec_leaves_requests served, waiting]
    rfl

theorem runSteps_requests {n : Nat} {s t : State} (run : runSteps n s = .next t) : t.requests = s.requests.drop n := by
  induction n generalizing s with
  | zero =>
    cases run
    rfl
  | succ n ih =>
    obtain ⟨m, stepped, run_rest⟩ := (runSteps_succ_next_iff n s t).mp run
    rw [ih run_rest, step_requests stepped, List.drop_tail]

/-- A run ends, with every request served, if some property of the state lets the first request complete and holds
again after it. -/
theorem runRequests_ends {P : State → Prop}
    (progress : ∀ {s : State} {r : Request} {rest : List Request}, P s → s.requests = r :: rest →
      ∃ i t, decode r = .ok i ∧ exec i (s.setRequests rest) = .next t ∧ P t)
    {s : State} (start : P s) : ∃ t, runRequests s = .next t ∧ t.requests = [] := by
  induction waiting : s.requests generalizing s with
  | nil => exact ⟨s, runRequests_of_none_waiting waiting, waiting⟩
  | cons r rest ih =>
    obtain ⟨i, m, decoded, served, kept⟩ := progress start waiting
    obtain ⟨t, run, ended⟩ := ih kept (exec_leaves_requests served)
    exact ⟨t, (runRequests_next_iff waiting t).mpr ⟨i, m, decoded, served, run⟩, ended⟩

/-- READ_TXF and READ_RXP apart, an operation of the block completes in every state (R126). -/
theorem exec_completes_of_neverRefused {i : Instr} (wf : i.wf = true) (never : neverRefused i = true) (s : State) :
    ∃ t, exec i s = .next t := by
  cases i with
  | decode l => exact (exec_decode_completes_iff l).mpr (of_decide_eq_true wf)
  | readTxf | readRxp => cases never
  | encode h c n p => exact ⟨_, exec_encode s p h c n⟩
  | readEncStatus | readDecStatus | reset | commandPower | commandBrightness | commandColor | commandSegment
  | requestPower | requestBrightness | requestColor | requestSegment => exact ⟨_, rfl⟩

/-! ### The obligations -/

/-- Settles O32: the answer is the code of a status that only ENCODE and RESET write (`issue_keeps_enc`). -/
theorem readEncStatusReturnsTheCode : Obligations.ReadEncStatusReturnsTheCode := by
  intro s
  refine ⟨_, exec_readEncStatus s, rfl, rfl, rfl, rfl, fun js u no_writer run => ⟨_, exec_readEncStatus u, ?_⟩⟩
  simp [issue_keeps_enc no_writer run]

/-- Settles O37: the response is read from the latches, so the frame it carries is the one `TXF` holds. -/
theorem readsAgreeWithTheEncodeResponse : Obligations.ReadsAgreeWithTheEncodeResponse := by
  intro h c n p s t f run response i inside
  rw [exec_encode_response run, EncUnit.response_eq_ok_iff] at response
  obtain ⟨ok, held⟩ := response
  exact ⟨_, exec_readTxf_of_held ok held inside, rfl⟩

/-- Settles O38: the response is read from the latches, so the decoder unit holds the packet it carries. -/
theorem readsAgreeWithTheDecodeResponse : Obligations.ReadsAgreeWithTheDecodeResponse := by
  intro l s t pk run response
  rw [exec_decode_response run, DecUnit.response_eq_ok_iff] at response
  have returns {field : RxField} {v : RxValue} (latch : (DecUnit.holding pk).rxLatch field = .ok v) :
      ∃ u, exec (.readRxp field) t = .next u ∧ u.decResponse = .rxp v :=
    ⟨_, exec_readRxp_of_latch (by rw [response, DecUnit.holding_status]) (response ▸ latch), rfl⟩
  exact ⟨returns (DecUnit.holding_rxLatch_head pk), returns (DecUnit.holding_rxLatch_headClass pk),
    returns (DecUnit.holding_rxLatch_cmd pk), returns (DecUnit.holding_rxLatch_cmdClass pk),
    fun i inside => returns (DecUnit.holding_rxLatch_data pk inside)⟩

/-- Settles O52: a step takes the first request and no operation touches the rest, by induction on the steps. -/
theorem eachStepServesOneRequest : Obligations.EachStepServesOneRequest :=
  fun _ _ _ _ run => runSteps_requests run

/-- Settles O53: what the run keeps is the hypothesis itself, about the requests still waiting. -/
theorem runsWithoutDataReadsEnd : Obligations.RunsWithoutDataReadsEnd := by
  intro s
  refine runRequests_ends (P := fun s => ∀ r ∈ s.requests, ∃ i, decode r = .ok i ∧ neverRefused i = true) ?_
  intro s r rest harmless waiting
  rw [waiting] at harmless
  obtain ⟨⟨i, decoded, never⟩, rest_harmless⟩ := List.forall_mem_cons.mp harmless
  obtain ⟨wf, -⟩ := decodedOperationEncodesBack r i decoded
  obtain ⟨t, served⟩ := exec_completes_of_neverRefused wf never (s.setRequests rest)
  exact ⟨i, t, decoded, served, (exec_leaves_requests served).symm ▸ rest_harmless⟩

/-- Settles O54: what the run keeps is the invariant, by which a met duty lets the operation complete
(`exec_completes_iff_dutyMet`), with the duties of the requests still waiting. -/
theorem runsMeetingTheirDutiesEnd : Obligations.RunsMeetingTheirDutiesEnd := by
  intro s inv duties
  refine runRequests_ends (P := fun s => s.Inv ∧ dutiesMet s.requests s = true) ?_ ⟨inv, duties⟩
  intro s r rest ⟨inv, duties⟩ waiting
  rw [waiting] at duties
  obtain ⟨i, decoded, duty, duties_after⟩ := dutiesMet_cons duties
  have inv_rest : (s.setRequests rest).Inv := inv
  have duty_rest : dutyMet i (s.setRequests rest) = true := duty
  obtain ⟨t, served⟩ := (exec_completes_iff_dutyMet inv_rest i).mpr duty_rest
  exact ⟨i, t, decoded, served, exec_keeps_inv inv_rest served,
    (exec_leaves_requests served).symm ▸ duties_after t served⟩

/-- Settles O33: a held frame's byte is the answer; another status is refused first; an index from 20 up is no
operation at the port and lets no READ_TXF complete. -/
theorem readTxfReturnsTheByte : Obligations.ReadTxfReturnsTheByte := by
  refine ⟨fun s f i inside ok held => ?_, fun s i => exec_readTxf_of_not_ok, fun s i past => ⟨?_, ?_⟩⟩
  · exact ⟨_, exec_readTxf_of_held ok held inside, rfl, rfl, rfl, exec_readTxf_of_held ok held inside⟩
  · exact if_neg (Nat.not_lt.mpr past)
  · exact exec_refused_of_not_next fun ⟨t, completes⟩ => Nat.not_lt.mpr past (index_lt_of_exec_readTxf completes)

/-- Settles O34: the answer is the code of the status, and answering changes neither unit's latches. -/
theorem readDecStatusReturnsTheCode : Obligations.ReadDecStatusReturnsTheCode :=
  fun s => ⟨_, exec_readDecStatus s, rfl, rfl, rfl, rfl⟩

/-- Settles O35: latches that all hold values with status OK are a held packet, of which each field is read; another
status is refused first; a `DATA` index from 17 up is no operation at the port and lets no READ_RXP complete. -/
theorem readRxpReturnsTheLatch : Obligations.ReadRxpReturnsTheLatch := by
  refine ⟨?_, fun s field => exec_readRxp_of_not_ok, fun s i past => ⟨?_, ?_⟩⟩
  · intro s b c hc cc p ok head head_class cmd cmd_class data field v named
    have held : s.dec = DecUnit.holding ⟨b, hc, c, cc, p⟩ :=
      (DecUnit.eq_holding_iff ..).mpr ⟨ok, head, head_class, cmd, cmd_class, data⟩
    have latch : s.dec.rxLatch field = .ok v := by
      rw [held]
      rcases named with ⟨rfl, rfl⟩ | ⟨rfl, rfl⟩ | ⟨rfl, rfl⟩ | ⟨rfl, rfl⟩ | ⟨i, inside, rfl, rfl⟩
      · exact DecUnit.holding_rxLatch_head _
      · exact DecUnit.holding_rxLatch_headClass _
      · exact DecUnit.holding_rxLatch_cmd _
      · exact DecUnit.holding_rxLatch_cmdClass _
      · exact DecUnit.holding_rxLatch_data _ inside
    exact ⟨_, exec_readRxp_of_latch ok latch, rfl, rfl, rfl, exec_readRxp_of_latch ok latch⟩
  · exact if_neg (by simp [RxField.wf, past])
  · exact exec_refused_of_not_next fun ⟨t, completes⟩ => Nat.not_lt.mpr past (index_lt_of_exec_readRxp completes)

/-- Settles O47: the lemma the runs rest on, by what a completed operation can have done. -/
theorem operationsLeaveTheRequests : Obligations.OperationsLeaveTheRequests :=
  fun _ _ _ => exec_leaves_requests

end Sys2Proof.Machine
end

section
/-! The errors (R100 to R107): what raising one records, and that it records it in one unit alone. -/

namespace Sys2Proof.Machine

/-- Settles O41: raising an error finishes its unit's operation with the failed latches, which hold code 2 and no data
and answer the status alone; finishing one unit's operation leaves the other unit and the requests. -/
theorem raiseRecordsTheErrorOnly : Obligations.RaiseRecordsTheErrorOnly := by
  intro s
  constructor
  · rw [State.raise_encodingError, State.finishEncode_enc, State.finishEncode_encResponse]
    exact ⟨rfl, EncUnit.failed_txf, EncUnit.failed_response, State.finishEncode_dec .., State.finishEncode_decResponse ..,
      State.finishEncode_requests ..⟩
  · rw [State.raise_checksumError, State.finishDecode_dec, State.finishDecode_decResponse]
    exact ⟨rfl, DecUnit.failed_holdsNone, DecUnit.failed_response, State.finishDecode_enc ..,
      State.finishDecode_encResponse .., State.finishDecode_requests ..⟩

end Sys2Proof.Machine
end

section
/-! Reset and the host's hazards (R120 to R126): what RESET restores, and which requests the decoder rejects, by name. -/

namespace Sys2Proof.Machine

/-! ### Rejections, port by port (R88, R91, R93) -/

/-- The decoder port rejects a sequence exactly for its length (R88). -/
theorem decode_decReq_error_iff (l : List Byte) (e : DecodeError) :
    decode (.decReq l) = .error e ↔ l.length ≠ 20 ∧ .frameLength = e := by
  rw [← frameOfBytes?_eq_none_iff]
  cases h : frameOfBytes? l <;> simp [decode, h]

/-- A request for a byte of `TXF` is rejected exactly for an index past the frame (R91). -/
theorem decode_txfReq_error_iff (i : Nat) (e : DecodeError) :
    decode (.txfReq i) = .error e ↔ 20 ≤ i ∧ .txfIndex = e := by
  rw [← Nat.not_lt]
  by_cases inside : i < 20 <;> simp [decode, inside]

/-- A request for a decoder latch is rejected exactly for a `DATA` index past the payload (R93). -/
theorem decode_rxpReq_error_iff (field : RxField) (e : DecodeError) :
    decode (.rxpReq field) = .error e ↔ ∃ i, field = .data i ∧ 17 ≤ i ∧ .rxDataIndex = e := by
  cases field with
  | data i =>
    rcases Nat.lt_or_ge i 17 with inside | past
    · simp [decode, RxField.wf, inside, Nat.not_le.mpr inside]
    · simp [decode, RxField.wf, past, Nat.not_lt.mpr past]
  | head | headClass | cmd | cmdClass => simp [decode, RxField.wf]

/-- Everything a rejection can be: one name for each thing a request can show on its own (R126 items 1, 2, 3, 6). -/
theorem decode_error_iff (r : Request) (e : DecodeError) :
    decode r = .error e ↔
      (∃ l, r = .decReq l ∧ l.length ≠ 20 ∧ .frameLength = e) ∨ (∃ i, r = .txfReq i ∧ 20 ≤ i ∧ .txfIndex = e) ∨
      (∃ i, r = .rxpReq (.data i) ∧ 17 ≤ i ∧ .rxDataIndex = e) ∨ (r = .unlisted ∧ .unlistedOperation = e) := by
  cases r with
  | decReq l => simp [decode_decReq_error_iff]
  | txfReq i => simp [decode_txfReq_error_iff]
  | rxpReq field => simp [decode_rxpReq_error_iff]
  | unlisted => simp [decode]
  | encReq | encStatusReq | decStatusReq | resetReq => simp [decode]

/-! ### The obligations -/

/-- Settles O5: each clause is `decode_error_iff` at one name, which leaves one of its four cases. -/
theorem decoderRejectsWhatTheRequestAloneShows : Obligations.DecoderRejectsWhatTheRequestAloneShows := by
  intro r
  refine ⟨?_, ?_, ?_, ?_⟩ <;> simp [decode_error_iff]

/-- Settles O40: RESET answers the power-on state with the waiting requests put back (`exec_reset`), and from there
the same state again. -/
theorem resetRestoresPowerOn : Obligations.ResetRestoresPowerOn := by
  intro s
  have again : exec .reset (State.reset.setRequests s.requests) = .next (State.reset.setRequests s.requests) := by
    rw [exec_reset, State.setRequests_requests]
  exact ⟨_, exec_reset s, EncUnit.reset_status, EncUnit.reset_txf, DecUnit.reset_status, DecUnit.reset_holdsNone,
    State.setRequests_enc .., State.setRequests_dec .., rfl, rfl, again⟩

end Sys2Proof.Machine
end
